-- ==== Sys2Proof/Word.lean ====
section
/-! DEFINITION. The word types of the ASH500 decode core (00_scope.md R7, R8; 30_encoding.md R80). -/

namespace Sys2Proof

/-- One 8-bit register, or one byte on the host data bus (DATA_W = 8, R7). -/
abbrev Byte := BitVec 8

/-- A single bit: POL, or one of the parity bits PAR[i] (R20). -/
abbrev Bit := BitVec 1

/-- A 16-bit register: TEMP or TINT (R20). -/
abbrev Half := BitVec 16

/-- A register offset in the host window, 0x00 to 0x7F (ADDR_W = 7, R7). -/
abbrev Offset := BitVec 7

/-- A host transaction word: WE in bit 15, OFF in bits 14:8, DATA in bits 7:0 (R80). -/
abbrev TxnWord := BitVec 16

end Sys2Proof
end

