-- ==== Sys2Proof/Syntax.lean ====
section
/-! DEFINITION. The core's "instructions": the host's transactions, one constructor per row of
spec/opcode_table.json (30_encoding.md R81, R84). -/

namespace Sys2Proof

/-- A host transaction. A write of the CMD register is a command and has a constructor of its own (R85). -/
inductive Instr where
  /-- RD: read the byte register at `off` (R110). -/
  | rd (off : Offset)
  /-- WR: write `data` at `off`, an offset other than CMD (R111). -/
  | wr (off : Offset) (data : Byte)
  /-- NOP: command byte 0x00 (R133). -/
  | nop
  /-- DECODE: command byte 0x01 (R135). -/
  | decode
  /-- STEP: command byte 0x02 (R134). -/
  | step
  /-- CLEAR: command byte 0x03 (R136). -/
  | clear
  /-- RESERVED_CMD: a command byte in 0x04..0xFF (R137). -/
  | reservedCmd (data : Byte)
deriving DecidableEq, Repr

end Sys2Proof
end

