-- ==== Sys2Proof/Machine/State.lean ====
section
/-! DEFINITION. The state of the core: every element of 10_state.md R20, the host port's events and bytes, and the model's
two counters; the reasons a step can stop; the state after reset (R45). -/

namespace Sys2Proof.Machine

/-- PHASE: the nine states of the sequencer (R23). Codes 9..15 are never held, so no constructor stands for one.
DEDUCED, safe: log entry 7. -/
inductive Phase where
  | idle
  /-- Transient: held only inside the transition from IDLE (R141). -/
  | lineDecoding
  | violation
  | realigned
  | unpacked
  /-- Transient: held only inside the transition from UNPACKED (R143). -/
  | validating
  | parityFailure
  | dewhitened
  | extracted
deriving DecidableEq, Repr

/-- A command that can be in flight (R24, R131). DEDUCED, safe: log entry 6. -/
inductive Command where
  | decode
  | step
  | clear
deriving DecidableEq, Repr

/-- ERRKIND (R31); code 3 is never held, so no constructor stands for it. DEDUCED, safe: log entry 7. -/
inductive ErrKind where
  | none
  | manchester
  | parity
deriving DecidableEq, Repr

/-- CMDCAUSE (R31, R256). -/
inductive CmdCause where
  | none
  | reservedOpcode
  | stepInTerminal
  | writeWhileBusy
deriving DecidableEq, Repr

/-- What happens next at the core: the outside world's inputs and the moment the core's own completion fires
(R132, R280, R284). DESIGN CHOICE, safe: log entry 1. -/
inductive Event where
  /-- The host presents the transaction this word spells (R80). -/
  | txn (w : TxnWord)
  /-- The completion of the in-flight command fires (R132). -/
  | completion
  /-- The reset input is 1 (R280, R284). -/
  | rst
deriving DecidableEq, Repr

/-- Why a step faults. Every constructor is an arm the spec calls unreachable; the hardware goes on in no such state.
DEDUCED, safe: log entry 8. -/
inductive Fault where
  /-- Raised by `transition` in a terminal or transient phase: R140 and 93_implementation_defined.md I8 ask for a fault.
  Safe: no value is produced. -/
  | unreachableTransition (p : Phase)
  /-- Raised by `complete` when BUSY = 1 and PENDING = none, which R24 excludes. Safe: no value is produced. -/
  | completionWithoutCommand
  /-- Raised by `runCall` when four transitions have not reached a terminal phase, which R135 and R145 exclude. Safe: no
  value is produced. -/
  | callBoundExceeded
deriving DecidableEq, Repr

/-- Why a step gives no meaning. -/
inductive Refusal where
  /-- Raised by exec for an instruction without a meaning yet; no arm does so. Safe. -/
  | notModelled (mnemonic : String)
  /-- Raised by step for a RD word with DATA ≠ 0: R85 case 5 and 93_implementation_defined.md I10 ask for a refusal that
  names the word. Safe: the core itself never sees such a word.
  DEDUCED: log entry 11. -/
  | notATransaction (w : TxnWord)
deriving DecidableEq, Repr

/-- Every element of R20, in its order; then the host port and the model's counters, which are no element of R20. -/
structure State where
  /-- CAP[0..19], the RawCapture (R27). -/
  cap : Vector Byte 20
  /-- POL, the sync-word polarity flag (R28). -/
  pol : Bit
  /-- PHASE (R22, R23). -/
  phase : Phase
  /-- BUSY (R24). -/
  busy : Bool
  /-- PENDING: the accepted command, none when no command is in flight (R24). -/
  pending : Option Command
  /-- CMDERR, sticky (R44). -/
  cmderr : Bool
  /-- CMDCAUSE (R31). -/
  cmdcause : CmdCause
  /-- ERRKIND (R31). -/
  errkind : ErrKind
  /-- ERRIDX (R32). -/
  erridx : Byte
  /-- CONSUMED (R33). -/
  consumed : Byte
  /-- DBUF[0..10]: the DecodedBitstream, and after realignment the source's R (R39). -/
  dbuf : Vector Byte 11
  /-- PKT[0..8]: the Packet (R40). -/
  pkt : Vector Byte 9
  /-- PAR[0..8]: the ParityBits (R41). -/
  par : Vector Bit 9
  /-- DEW[0..8]: the dewhitened bytes (R42). -/
  dew : Vector Byte 9
  /-- SERIAL (R34). -/
  serial : Byte
  /-- HUMIDITY (R35). -/
  humidity : Byte
  /-- TEMP (R36). -/
  temp : Half
  /-- TINT (R37). -/
  tint : Half
  /-- TFRAC (R38). -/
  tfrac : Byte
  /-- MODEL: what happens next, oldest first: the input ports of R284 at the level of transactions. DESIGN CHOICE,
  safe: log entries 1 and 12. -/
  events : List Event
  /-- MODEL: the bytes RD transactions have returned on rdata (R284), newest first. DESIGN CHOICE, safe: log
  entry 2. -/
  reads : List Byte
  /-- MODEL: how many unconstrained draws have been made (R112); it selects the free value and nothing else. DESIGN
  CHOICE, safe: log entry 3. -/
  draws : Nat
  /-- MODEL: the host's transactions since the last acceptance while BUSY = 1, which T_CMD bounds (R132). DESIGN
  CHOICE, safe: log entry 4. -/
  busyTxns : Nat
deriving DecidableEq, Repr

/-- The machine right after reset: R45's value for every element of R20; nothing presented at the port, nothing read. -/
def State.reset : State where
  cap := Vector.replicate 20 0x00#8
  pol := 0#1
  phase := .idle
  busy := false
  pending := none
  cmderr := false
  cmdcause := .none
  errkind := .none
  erridx := 0x00#8
  consumed := 0x00#8
  dbuf := Vector.replicate 11 0x00#8
  pkt := Vector.replicate 9 0x00#8
  par := Vector.replicate 9 0#1
  dew := Vector.replicate 9 0x00#8
  serial := 0x00#8
  humidity := 0x00#8
  temp := 0x0000#16
  tint := 0x0000#16
  tfrac := 0x00#8
  events := []
  reads := []
  draws := 0
  busyTxns := 0

/-- The three outcomes of a step of this machine. -/
abbrev Result := Host.Outcome State Fault Refusal

end Sys2Proof.Machine
end

