-- ==== Sys2Proof/Machine/Flags.lean ====
section
/-! DEFINITION. Codes and flags: PHASE, ERRKIND and CMDCAUSE codes (10_state.md R23, R31, 60_exceptions.md R256), VALID and
ERR (R30, R44), the STATUS and ERRINFO bytes (R30, R31, R110), and parity8 (00_scope.md R9). -/

namespace Sys2Proof.Machine

/-- The PHASE code (R23). -/
def Phase.code : Phase → BitVec 4
  | .idle => 0#4
  | .lineDecoding => 1#4
  | .violation => 2#4
  | .realigned => 3#4
  | .unpacked => 4#4
  | .validating => 5#4
  | .parityFailure => 6#4
  | .dewhitened => 7#4
  | .extracted => 8#4

/-- A terminal phase: VIOLATION, PARITY_FAILURE or EXTRACTED (R12, R23). -/
def Phase.isTerminal : Phase → Bool
  | .violation | .parityFailure | .extracted => true
  | .idle | .lineDecoding | .realigned | .unpacked | .validating | .dewhitened => false

/-- A transient phase: LINE_DECODING or VALIDATING (R23). -/
def Phase.isTransient : Phase → Bool
  | .lineDecoding | .validating => true
  | .idle | .violation | .realigned | .unpacked | .parityFailure | .dewhitened | .extracted => false

/-- The ERRKIND code (R31). -/
def ErrKind.code : ErrKind → BitVec 2
  | .none => 0#2
  | .manchester => 1#2
  | .parity => 2#2

/-- The CMDCAUSE code (R31, R256). -/
def CmdCause.code : CmdCause → BitVec 2
  | .none => 0#2
  | .reservedOpcode => 1#2
  | .stepInTerminal => 2#2
  | .writeWhileBusy => 3#2

/-- STATUS.VALID: 1 exactly when PHASE = EXTRACTED (R30). -/
def State.validFlag (s : State) : Bool := s.phase == .extracted

/-- STATUS.ERR: 1 exactly when PHASE is VIOLATION or PARITY_FAILURE (R30). -/
def State.errFlag (s : State) : Bool := s.phase == .violation || s.phase == .parityFailure

/-- STATUS at rest: CMDERR ++ ERR ++ VALID ++ BUSY ++ PHASE[3:0] (R30, R110). -/
def State.statusByte (s : State) : Byte :=
  BitVec.ofBool s.cmderr ++ BitVec.ofBool s.errFlag ++ BitVec.ofBool s.validFlag ++ BitVec.ofBool s.busy ++ s.phase.code

/-- ERRINFO: 00 ++ CMDCAUSE ++ 00 ++ ERRKIND (R31, R110). -/
def State.errinfoByte (s : State) : Byte := 0#2 ++ s.cmdcause.code ++ 0#2 ++ s.errkind.code

/-- `parity8(v)`: the XOR of all 8 bits (R9). -/
def parity8 (b : Byte) : Bit :=
  b.extractLsb' 0 1 ^^^ b.extractLsb' 1 1 ^^^ b.extractLsb' 2 1 ^^^ b.extractLsb' 3 1 ^^^
    b.extractLsb' 4 1 ^^^ b.extractLsb' 5 1 ^^^ b.extractLsb' 6 1 ^^^ b.extractLsb' 7 1

end Sys2Proof.Machine
end

