-- ==== Sys2Proof/Config.lean ====
section
/-! DEFINITION. What is fixed for this hardware (00_scope.md R6, R7; log entry 9), the named parameters of
93_implementation_defined.md at their normative values, and the free values of 40_host_access.md R112. -/

namespace Sys2Proof

/-- Which bit of `R[i+1]` is PAR[i] (93_implementation_defined.md I2). -/
inductive ParityTap where
  /-- Bit 7-i, the one bit the windows leave unused: normative (R192, 90_conflicts.md C1). -/
  | geometric
  /-- Bit 7, for comparison with the original code only; not this hardware. -/
  | literal
deriving DecidableEq, Repr

/-- Which nibble bit a symbol group sets (93_implementation_defined.md I4). -/
inductive GroupOrder where
  /-- Group j sets nibble bit j: normative (R88). -/
  | sameRank
  /-- Group j sets nibble bit 3-j, for comparison with the original code only; not this hardware. -/
  | reversed
deriving DecidableEq, Repr

/-- CAP_LEN: bytes in a RawCapture, and CONSUMED after a successful line decode (R6, R33). -/
def Config.capLen : Nat := 20
/-- WHITEN_SEED (R6). -/
def Config.whitenSeed : Byte := 0x89#8
/-- WHITEN_ADD (R6). -/
def Config.whitenAdd : Byte := 0x24#8
/-- TEMP_HI_MASK (R6; 93_implementation_defined.md I3). -/
def Config.tempHiMask : Byte := 0x7F#8
/-- IDX_SERIAL (R6). -/
abbrev Config.idxSerial : Fin 9 := 4
/-- IDX_TEMP_HI (R6). -/
abbrev Config.idxTempHi : Fin 9 := 5
/-- IDX_TEMP_LO (R6). -/
abbrev Config.idxTempLo : Fin 9 := 6
/-- IDX_HUMIDITY (R6). -/
abbrev Config.idxHumidity : Fin 9 := 7
/-- TEMP_DIVISOR (R6). -/
def Config.tempDivisor : Int := 10
/-- PARITY_TAP (93_implementation_defined.md I2). -/
def Config.parityTap : ParityTap := .geometric
/-- GROUP_ORDER (93_implementation_defined.md I4). -/
def Config.groupOrder : GroupOrder := .sameRank

/-- The most transitions a DECODE makes (R135, R145). -/
def Config.maxTransitions : Nat := 4

/-- draw8() of R110: the free byte the n-th draw reads at an offset of DRAW_SET while BUSY = 1. No body: nothing
constrains it (R112). A free value, safe: log entry 3. -/
opaque Config.draw8 : Nat → BitVec 8

/-- draw3() of R110: the free STATUS bits 7:5 of the n-th draw (R112). No body. -/
opaque Config.draw3 : Nat → BitVec 3

/-- draw4() of R110: the free STATUS bits 3:0 of the n-th draw (R112). No body. -/
opaque Config.draw4 : Nat → BitVec 4

end Sys2Proof
end

