-- ==== Sys2Proof/WellFormed.lean ====
section
/-! DEFINITION. Which transactions have a word of their own (30_encoding.md R84, R85), and which write (R81). -/

namespace Sys2Proof

/-- The offset of CMD, 0x15 (10_state.md R26, R29). -/
def cmdOffset : Offset := 0x15#7

/-- A write of CMD is one of the command constructors, never `wr`; a reserved command's byte is none of 0x00..0x03. -/
def Instr.wf : Instr → Bool
  | .rd _ => true
  | .wr off _ => off != cmdOffset
  | .nop => true
  | .decode => true
  | .step => true
  | .clear => true
  | .reservedCmd v => decide (4 ≤ v.toNat)

/-- A transaction that writes the CMD register (R81). -/
def Instr.isCommand : Instr → Bool
  | .rd _ => false
  | .wr off _ => off == cmdOffset
  | .nop | .decode | .step | .clear | .reservedCmd _ => true

/-- A transaction that writes, whatever the offset (R81). -/
def Instr.isWrite : Instr → Bool
  | .rd _ => false
  | .wr _ _ | .nop | .decode | .step | .clear | .reservedCmd _ => true

end Sys2Proof
end

