-- ==== Sys2Proof/Machine/Operands.lean ====
section
/-! DEFINITION. Operand forms: the register an offset names (10_state.md R26, R43), the offsets that read as draws while busy
(40_host_access.md R112), and the bit fields the stages cut out of bytes (00_scope.md R8, R9, R13). -/

namespace Sys2Proof.Machine

/-- A register of the window (R26), by name. -/
inductive Reg where
  | cap (i : Fin 20)
  | ctrl
  | cmd
  | status
  | errinfo
  | erridx
  | consumed
  | serial
  | humidity
  | tempL
  | tempH
  | tintL
  | tintH
  | tfrac
  | dbuf (i : Fin 11)
  | pkt (i : Fin 9)
  | parL
  | parH
  | dew (i : Fin 9)
  | unassigned
deriving DecidableEq, Repr

/-- The access column of R26. -/
inductive Access where
  /-- RW: reads return the value, writes store it. -/
  | readWrite
  /-- W: reads return 0x00. -/
  | writeOnly
  /-- R: writes are ignored. -/
  | readOnly
  /-- Unassigned: reads return 0x00, writes are ignored (R43). -/
  | neither
deriving DecidableEq, Repr

/-- The register at an offset: the map of R26, total on the 128 offsets. -/
def regAt (off : Offset) : Reg :=
  let n := off.toNat
  if h : n < 0x14 then .cap ⟨n, h⟩
  else if n = 0x14 then .ctrl
  else if n = 0x15 then .cmd
  else if n = 0x16 then .status
  else if n = 0x17 then .errinfo
  else if n = 0x18 then .erridx
  else if n = 0x19 then .consumed
  else if n = 0x1A then .serial
  else if n = 0x1B then .humidity
  else if n = 0x1C then .tempL
  else if n = 0x1D then .tempH
  else if n = 0x1E then .tintL
  else if n = 0x1F then .tintH
  else if n = 0x20 then .tfrac
  else if h : 0x30 ≤ n ∧ n ≤ 0x3A then .dbuf ⟨n - 0x30, by omega⟩
  else if h : 0x40 ≤ n ∧ n ≤ 0x48 then .pkt ⟨n - 0x40, by omega⟩
  else if n = 0x49 then .parL
  else if n = 0x4A then .parH
  else if h : 0x50 ≤ n ∧ n ≤ 0x58 then .dew ⟨n - 0x50, by omega⟩
  else .unassigned

/-- The offset of a named register (R26); an unassigned location has no name, and this gives it 0x7F. -/
def Reg.offset : Reg → Offset
  | .cap i => BitVec.ofNat 7 i.val
  | .ctrl => 0x14#7
  | .cmd => cmdOffset
  | .status => 0x16#7
  | .errinfo => 0x17#7
  | .erridx => 0x18#7
  | .consumed => 0x19#7
  | .serial => 0x1A#7
  | .humidity => 0x1B#7
  | .tempL => 0x1C#7
  | .tempH => 0x1D#7
  | .tintL => 0x1E#7
  | .tintH => 0x1F#7
  | .tfrac => 0x20#7
  | .dbuf i => BitVec.ofNat 7 (0x30 + i.val)
  | .pkt i => BitVec.ofNat 7 (0x40 + i.val)
  | .parL => 0x49#7
  | .parH => 0x4A#7
  | .dew i => BitVec.ofNat 7 (0x50 + i.val)
  | .unassigned => 0x7F#7

/-- A register's access (R26, R43). -/
def Reg.access : Reg → Access
  | .cap _ => .readWrite
  | .ctrl => .readWrite
  | .cmd => .writeOnly
  | .unassigned => .neither
  | _ => .readOnly

/-- DRAW_SET: 0x17–0x20, 0x30–0x3A, 0x40–0x4A and 0x50–0x58 (R112). -/
def inDrawSet (off : Offset) : Bool :=
  let n := off.toNat
  (decide (0x17 ≤ n) && decide (n ≤ 0x20)) || (decide (0x30 ≤ n) && decide (n ≤ 0x3A)) ||
    (decide (0x40 ≤ n) && decide (n ≤ 0x4A)) || (decide (0x50 ≤ n) && decide (n ≤ 0x58))

/-- The offset of STATUS, 0x16 (R30). -/
def statusOffset : Offset := 0x16#7

/-- A read of this offset while BUSY = 1 is a draw, whole (DRAW_SET) or in part (STATUS) (R112). -/
def readsAsDraw (off : Offset) : Bool := inDrawSet off || (off == statusOffset)

/-- `v[j:j]` of a byte (R8). -/
def bitAt (b : Byte) (j : Nat) : Bit := b.extractLsb' j 1

/-- Symbol group j of a capture byte, its bits 2j+1:2j (R12, R87). -/
def symbolGroup (b : Byte) (j : Nat) : BitVec 2 := b.extractLsb' (2 * j) 2

/-- The byte whose bits, most significant first, are `f 0` to `f 7`: the frame's bit order (R13, R65). -/
def byteOfBits (f : Nat → Bit) : Byte := f 0 ++ f 1 ++ f 2 ++ f 3 ++ f 4 ++ f 5 ++ f 6 ++ f 7

/-- Stream bit b of a realigned buffer, held at `DBUF[b div 8][7 - (b mod 8)]` (R13). -/
def streamBit (r : Vector Byte 11) (b : Fin 81) : Bit :=
  bitAt (r[b.val / 8]'(by omega)) (7 - b.val % 8)

/-- `s16(v)`: a 16-bit value as a two's-complement integer (R9). -/
def s16 (v : Half) : Int := v.toInt

end Sys2Proof.Machine
end

