-- ==== Sys2Proof/Machine/Ops.lean ====
section
/-! DEFINITION. The named operations over the state: reading and writing registers (40_host_access.md R110 to R113), error
entry (60_exceptions.md R251, R252, R255) and leaving an error (41_commands.md R130, R138), acceptance and the end of a command
(R131, R132), reset (70_reset_and_hazards.md R280). -/

namespace Sys2Proof.Machine

/-- `PHASE <- p` (R10). -/
def State.setPhase (p : Phase) (s : State) : State := { s with phase := p }

/-! ### Registers -/

/-- PAR_L: PAR[i] in bit i, for i in 0..7 (R41, R64). -/
def State.parLow (s : State) : Byte :=
  s.par[7] ++ s.par[6] ++ s.par[5] ++ s.par[4] ++ s.par[3] ++ s.par[2] ++ s.par[1] ++ s.par[0]

/-- What a register reads as at rest (R110's ReadValue, by name). -/
def State.readReg (r : Reg) (s : State) : Byte :=
  match r with
  | .cap i => s.cap[i]
  | .ctrl => s.pol.setWidth 8
  | .cmd => 0x00#8
  | .status => s.statusByte
  | .errinfo => s.errinfoByte
  | .erridx => s.erridx
  | .consumed => s.consumed
  | .serial => s.serial
  | .humidity => s.humidity
  | .tempL => s.temp.extractLsb' 0 8
  | .tempH => s.temp.extractLsb' 8 8
  | .tintL => s.tint.extractLsb' 0 8
  | .tintH => s.tint.extractLsb' 8 8
  | .tfrac => s.tfrac
  | .dbuf i => s.dbuf[i]
  | .pkt i => s.pkt[i]
  | .parL => s.parLow
  | .parH => s.par[8].setWidth 8
  | .dew i => s.dew[i]
  | .unassigned => 0x00#8

/-- ReadValue(off): the byte at an offset of the window at rest (R110). -/
def State.readValue (off : Offset) (s : State) : Byte := s.readReg (regAt off)

/-- What a RD of `off` returns: while BUSY = 1 a draw at an offset of DRAW_SET, and at STATUS a draw around BUSY = 1 in
bit 4; else ReadValue(off) (R110, R112). -/
def State.readByte (off : Offset) (s : State) : Byte :=
  if s.busy && inDrawSet off then Config.draw8 s.draws
  else if s.busy && (off == statusOffset) then Config.draw3 s.draws ++ 1#1 ++ Config.draw4 s.draws
  else s.readValue off

/-- One RD at the port: the byte goes out on rdata, a draw is used up, and no element of R20 changes (R67). -/
def State.hostRead (off : Offset) (s : State) : State :=
  { s with
    reads := s.readByte off :: s.reads
    draws := if s.busy && readsAsDraw off then s.draws + 1 else s.draws }

/-- `CAP[i] <- v` (R111). -/
def State.setCap (i : Fin 20) (v : Byte) (s : State) : State := { s with cap := s.cap.set i v }

/-- CTRL <- v: bit 0 is stored in POL, bits 7:1 are dropped (R28, R111). -/
def State.setCtrl (v : Byte) (s : State) : State := { s with pol := bitAt v 0 }

/-! ### Taking an error -/

/-- `raise CommandError(cause)`: the first cause since CMDERR was last cleared is kept (R255). -/
def State.raiseCommandError (cause : CmdCause) (s : State) : State :=
  { s with
    cmdcause := if s.cmderr then s.cmdcause else cause
    cmderr := true }

/-- `raise ManchesterViolation(k)` (R251). -/
def State.raiseManchester (k : Byte) (s : State) : State :=
  { s with errkind := .manchester, erridx := k, phase := .violation }

/-- `raise ParityFailure(idx)` (R252). -/
def State.raiseParity (idx : Byte) (s : State) : State :=
  { s with errkind := .parity, erridx := idx, phase := .parityFailure }

/-! ### Leaving an error -/

/-- `CMDERR <- 0; CMDCAUSE <- 0`: the acceptance of DECODE or CLEAR leaves a command error (R130, R259). -/
def State.clearCommandError (s : State) : State := { s with cmderr := false, cmdcause := .none }

/-- `ClearCall()`: the per-call state at its IDLE values; a decode error and every result are left (R138, R259). -/
def State.clearCall (s : State) : State :=
  { s with
    phase := .idle
    errkind := .none
    erridx := 0x00#8
    consumed := 0x00#8
    dbuf := Vector.replicate 11 0x00#8
    pkt := Vector.replicate 9 0x00#8
    par := Vector.replicate 9 0#1
    dew := Vector.replicate 9 0x00#8
    serial := 0x00#8
    humidity := 0x00#8
    temp := 0x0000#16
    tint := 0x0000#16
    tfrac := 0x00#8 }

/-! ### A command in flight -/

/-- `Accept(c)`: BUSY <- 1 and PENDING <- c (R131); the model's count of transactions against T_CMD starts again. -/
def State.accept (c : Command) (s : State) : State :=
  { s with busy := true, pending := some c, busyTxns := 0 }

/-- `BUSY <- 0; PENDING <- none`: the end of a completion (R132). -/
def State.finish (s : State) : State := { s with busy := false, pending := none }

/-- A write at the port: while BUSY = 1 it is dropped with CommandError(WRITE_WHILE_BUSY), before its offset or data is
looked at; else it has its effect (R111, R113, R257 item 4). -/
def State.writeUnlessBusy (effect : State → State) (s : State) : State :=
  if s.busy then s.raiseCommandError .writeWhileBusy else effect s

/-! ### The port -/

/-- The reset event: every element of R20 at its reset value; an in-flight command is abandoned (R280). What the host has
yet to present and what it has read are no element of R20 and stay. DESIGN CHOICE, safe: log entry 16. -/
def State.resetCore (s : State) : State :=
  { State.reset with events := s.events, reads := s.reads, draws := s.draws }

/-- Event list after its head has happened. -/
def State.withEvents (es : List Event) (s : State) : State := { s with events := es }

/-- One more transaction is presented; it counts against T_CMD while BUSY = 1 (R7, R132). -/
def State.countTxn (s : State) : State :=
  { s with busyTxns := if s.busy then s.busyTxns + 1 else s.busyTxns }

end Sys2Proof.Machine
end

