-- ==== Sys2Proof/Machine/Commands.lean ====
section
/-! DEFINITION. The commands a write to CMD presents (41_commands.md R130 to R137) and the meanings of their transactions. -/

namespace Sys2Proof.Machine

/-- Command(0x00): no operation; BUSY is not set (R133). -/
def commandNop (s : State) : State := s

/-- Command(0x01): CMDERR and CMDCAUSE are cleared at acceptance, not at completion (R130, R135). -/
def commandDecode (s : State) : State := s.clearCommandError.accept .decode

/-- Command(0x02): refused in a terminal phase, else accepted; CMDERR is not cleared (R130, R134). -/
def commandStep (s : State) : State :=
  if s.phase.isTerminal then s.raiseCommandError .stepInTerminal else s.accept .step

/-- Command(0x03): CMDERR and CMDCAUSE are cleared at acceptance (R130, R136). -/
def commandClear (s : State) : State := s.clearCommandError.accept .clear

/-- Command(v) for a reserved byte: CommandError(RESERVED_OPCODE) and nothing else (R130, R137). -/
def commandReserved (s : State) : State := s.raiseCommandError .reservedOpcode

/-- Command(v): what command byte v does with BUSY = 0 (R130). -/
def command (v : Byte) (s : State) : State :=
  if v = 0x00#8 then commandNop s
  else if v = 0x01#8 then commandDecode s
  else if v = 0x02#8 then commandStep s
  else if v = 0x03#8 then commandClear s
  else commandReserved s

/-- NOP (R133; while BUSY = 1, R113). -/
def execNop (s : State) : Result := .next (s.writeUnlessBusy commandNop)

/-- DECODE: the acceptance (R135; while BUSY = 1, R113). Its effect is `commandEffect .decode`, at completion. -/
def execDecode (s : State) : Result := .next (s.writeUnlessBusy commandDecode)

/-- STEP: the acceptance (R134; while BUSY = 1, R113). Its effect is `commandEffect .step`, at completion. -/
def execStep (s : State) : Result := .next (s.writeUnlessBusy commandStep)

/-- CLEAR: the acceptance (R136; while BUSY = 1, R113). Its effect is `commandEffect .clear`, at completion. -/
def execClear (s : State) : Result := .next (s.writeUnlessBusy commandClear)

/-- RESERVED_CMD: a WR of `v` to CMD, so that each byte does what Command(v) says (R130, R137; while BUSY = 1, R113).
For a byte below 4, which no decoded instruction holds: DESIGN CHOICE, safe, log entry 10. -/
def execReservedCmd (v : Byte) (s : State) : Result := .next (s.writeUnlessBusy (command v))

end Sys2Proof.Machine
end

