-- ==== Sys2Proof/Machine/HostAccess.lean ====
section
/-! DEFINITION. The host's transactions RD and WR (40_host_access.md R110 to R113). -/

namespace Sys2Proof.Machine

/-- WR(off, v) with BUSY = 0: CAP, CTRL and CMD take the byte, every other offset ignores it (R43, R111). -/
def writeReg (r : Reg) (v : Byte) (s : State) : State :=
  match r with
  | .cap i => s.setCap i v
  | .ctrl => s.setCtrl v
  | .cmd => command v s
  | .status | .errinfo | .erridx | .consumed | .serial | .humidity | .tempL | .tempH | .tintL | .tintH | .tfrac => s
  | .dbuf _ | .pkt _ | .parL | .parH | .dew _ | .unassigned => s

/-- RD (R110, R112): it never faults, at any offset and in any phase. -/
def execRd (off : Offset) (s : State) : Result := .next (s.hostRead off)

/-- WR (R111, R113). -/
def execWr (off : Offset) (v : Byte) (s : State) : Result := .next (s.writeUnlessBusy (writeReg (regAt off) v))

end Sys2Proof.Machine
end

