-- ==== Sys2Proof/Machine/Dispatch.lean ====
section
/-! DEFINITION. One arm per transaction: each calls its meaning. -/

namespace Sys2Proof.Machine

/-- What a transaction does (R110, R111, R130). -/
def exec (i : Instr) (s : State) : Host.Outcome State Fault Refusal :=
  match i with
  | .rd off => Sys2Proof.Machine.execRd off s
  | .wr off data => Sys2Proof.Machine.execWr off data s
  | .nop => Sys2Proof.Machine.execNop s
  | .decode => Sys2Proof.Machine.execDecode s
  | .step => Sys2Proof.Machine.execStep s
  | .clear => Sys2Proof.Machine.execClear s
  | .reservedCmd data => Sys2Proof.Machine.execReservedCmd data s

end Sys2Proof.Machine
end

