-- ==== Sys2Proof/Decode.lean ====
section
/-! DEFINITION. Decoding a transaction word (30_encoding.md R80 to R86), total on the 16-bit words and refusing by name;
after it the encoder, and the opcode table's patterns. -/

namespace Sys2Proof

/-- What a transaction word spells. -/
inductive Decoded where
  | instr (i : Instr)
  /-- R85 case 5: a RD word with DATA ≠ 0 spells no transaction; the refusal names the word. -/
  | notATransaction (w : TxnWord)
deriving DecidableEq, Repr

/-- WE, bit 15 (R80). -/
def fieldWE (w : TxnWord) : Bit := w.extractLsb' 15 1

/-- OFF, bits 14:8, unsigned and used as is (R80, R82). -/
def fieldOFF (w : TxnWord) : Offset := w.extractLsb' 8 7

/-- DATA, bits 7:0, unsigned and used as is (R80, R82). -/
def fieldDATA (w : TxnWord) : Byte := w.extractLsb' 0 8

/-- The command a byte written to CMD names (R83, R84). -/
def decodeCommand (v : Byte) : Instr :=
  if v = 0x00#8 then .nop
  else if v = 0x01#8 then .decode
  else if v = 0x02#8 then .step
  else if v = 0x03#8 then .clear
  else .reservedCmd v

/-- R85: the five cases, tried in order. -/
def decode (w : TxnWord) : Decoded :=
  if fieldWE w = 1#1 then
    if fieldOFF w = cmdOffset then .instr (decodeCommand (fieldDATA w))
    else .instr (.wr (fieldOFF w) (fieldDATA w))
  else if fieldDATA w = 0x00#8 then .instr (.rd (fieldOFF w))
  else .notATransaction w

/-- `WE << 15 | OFF << 8 | DATA` (R80). -/
def txnWord (we : Bit) (off : Offset) (data : Byte) : TxnWord := we ++ off ++ data

/-- The word of a transaction (R80, R81, R84). -/
def encode : Instr → TxnWord
  | .rd off => txnWord 0#1 off 0x00#8
  | .wr off v => txnWord 1#1 off v
  | .nop => txnWord 1#1 cmdOffset 0x00#8
  | .decode => txnWord 1#1 cmdOffset 0x01#8
  | .step => txnWord 1#1 cmdOffset 0x02#8
  | .clear => txnWord 1#1 cmdOffset 0x03#8
  | .reservedCmd v => txnWord 1#1 cmdOffset v

/-- The 16-bit word a table row's bits give: the low `nbits` bits of `w`, every other bit 0. A transaction is one word
(R81), so no byte order arises. -/
def tableWord (nbits w : Nat) : TxnWord := BitVec.ofNat 16 (w % 2 ^ nbits)

/-- The transaction the decoder reads from a row's bits, none where it refuses. -/
def decodeTableWord (nbits w : Nat) : Option Instr :=
  match decode (tableWord nbits w) with
  | .instr i => some i
  | .notATransaction _ => none

/-- The mask and match of a transaction's row in spec/opcode_table.json. -/
def tablePattern : Instr → TxnWord × TxnWord
  | .rd _ => (0x80FF#16, 0x0000#16)
  | .wr _ _ => (0x8000#16, 0x8000#16)
  | .nop => (0xFFFF#16, 0x9500#16)
  | .decode => (0xFFFF#16, 0x9501#16)
  | .step => (0xFFFF#16, 0x9502#16)
  | .clear => (0xFFFF#16, 0x9503#16)
  | .reservedCmd _ => (0xFF00#16, 0x9500#16)

/-- The word fits the transaction's row of the table. -/
def matchesTable (i : Instr) (w : TxnWord) : Bool := (w &&& (tablePattern i).1) == (tablePattern i).2

end Sys2Proof
end

