-- ==== Sys2Proof/Machine/Fetch.lean ====
section
/-! DEFINITION. Which step is next, and placing a transaction at the port (41_commands.md R132, 60_exceptions.md R276,
70_reset_and_hazards.md R280, R284, R291). The core fetches no instructions (10_state.md R22): the host presents them.
DESIGN CHOICE: log entries 1 and 5. -/

namespace Sys2Proof.Machine

/-- The step that is next, with the state it starts from. -/
inductive Turn where
  /-- Nothing is presented and nothing is in flight: an idle core takes no step (R276). -/
  | idle
  /-- The completion fires (R132). -/
  | complete (s : State)
  /-- A completion that is not enabled, BUSY being 0: nothing happens (R132). -/
  | skip (s : State)
  /-- Reset (R280). -/
  | reset (s : State)
  /-- A host transaction. -/
  | run (i : Instr) (s : State)
  /-- A word that spells no transaction (R85 case 5). -/
  | notATransaction (w : TxnWord)
deriving DecidableEq, Repr

/-- The host's word at the port, counted against T_CMD while BUSY = 1. -/
def presentWord (w : TxnWord) (s : State) : Turn :=
  match decode w with
  | .instr i => .run i s.countTxn
  | .notATransaction w => .notATransaction w

/-- The next step: the head of the event list; with nothing more to come, a busy core completes (R132, R291). -/
def nextTurn (s : State) : Turn :=
  match s.events with
  | [] => if s.busy then .complete s else .idle
  | .completion :: es => if s.busy then .complete (s.withEvents es) else .skip (s.withEvents es)
  | .rst :: es => .reset (s.withEvents es).resetCore
  | .txn w :: es => presentWord w (s.withEvents es)

/-- `s` with a transaction word presented next, ahead of everything else to come. -/
def State.presentNext (w : TxnWord) (s : State) : State := { s with events := .txn w :: s.events }

end Sys2Proof.Machine
end

