-- ==== Sys2Proof/Machine/Dewhitener.lean ====
section
/-! DEFINITION. The Dewhitener stage (46_dewhitener.md R220 to R223). -/

namespace Sys2Proof.Machine

/-- Dewhitened byte i, from the whitened input alone (R220, R221). -/
def dewhitenedByte (pkt : Vector Byte 9) (i : Fin 9) : Byte :=
  if i.val = 0 then pkt[0] ^^^ Config.whitenSeed
  else (pkt[i.val - 1] + Config.whitenAdd) ^^^ pkt[i.val]

/-- The nine dewhitened bytes of a packet (R220). -/
def dewhitened (pkt : Vector Byte 9) : Vector Byte 9 := Vector.ofFn (dewhitenedByte pkt)

/-- Dewhiten() (R220). -/
def dewhiten (s : State) : State := { s with dew := dewhitened s.pkt }

end Sys2Proof.Machine
end

