-- ==== Sys2Proof/Machine/FieldExtractor.lean ====
section
/-! DEFINITION. The FieldExtractor stage (47_field_extractor.md R230 to R236). -/

namespace Sys2Proof.Machine

/-- TEMP: `(DEW[5] & 0x7F) ++ DEW[6]` (R232). -/
def temperatureOf (dew : Vector Byte 9) : Half :=
  (dew[Config.idxTempHi] &&& Config.tempHiMask) ++ dew[Config.idxTempLo]

/-- TINT: `(tdiv(s16(TEMP), 10))[15:0]`, truncating toward zero (R234, R235). -/
def integerPart (temp : Half) : Half := BitVec.ofInt 16 ((s16 temp).tdiv Config.tempDivisor)

/-- TFRAC: `(trem(s16(TEMP), 10))[7:0]`, with the sign of TEMP (R234, R235). -/
def fractionDigit (temp : Half) : Byte := BitVec.ofInt 8 ((s16 temp).tmod Config.tempDivisor)

/-- Extract() (R234). -/
def extract (s : State) : State :=
  { s with
    serial := s.dew[Config.idxSerial]
    humidity := s.dew[Config.idxHumidity]
    temp := temperatureOf s.dew
    tint := integerPart (temperatureOf s.dew)
    tfrac := fractionDigit (temperatureOf s.dew) }

end Sys2Proof.Machine
end

