-- ==== Sys2Proof/Machine/LineDecoder.lean ====
section
/-! DEFINITION. The LineDecoder stage (42_line_decoder.md R160 to R164; 30_encoding.md R87, R88). -/

namespace Sys2Proof.Machine

/-- A group of 0b00 or 0b11 is a line-code violation (R87, R161). -/
def groupViolates (g : BitVec 2) : Bool := g == 0b00#2 || g == 0b11#2

/-- A capture byte holds a violating group (R161, R162). -/
def byteViolates (b : Byte) : Bool :=
  groupViolates (symbolGroup b 0) || groupViolates (symbolGroup b 1) ||
    groupViolates (symbolGroup b 2) || groupViolates (symbolGroup b 3)

/-- The group that gives nibble bit j: the group of the same rank (R88; 93_implementation_defined.md I4). -/
def groupOfBit (order : GroupOrder) (j : Nat) : Nat :=
  match order with
  | .sameRank => j
  | .reversed => 3 - j

/-- Nibble bit j of a capture byte: 0b01 sets it, 0b10 clears it (R87, R160). -/
def nibbleBit (order : GroupOrder) (b : Byte) (j : Nat) : Bit :=
  BitVec.ofBool (symbolGroup b (groupOfBit order j) == 0b01#2)

/-- The nibble a capture byte without a violation encodes (R87, R160). -/
def nibbleOf (order : GroupOrder) (b : Byte) : BitVec 4 :=
  nibbleBit order b 3 ++ nibbleBit order b 2 ++ nibbleBit order b 1 ++ nibbleBit order b 0

/-- The lowest capture index, from `k` up, whose byte holds a violation: decoding stops there (R162). -/
def firstViolationFrom (k : Nat) : List Byte → Option Nat
  | [] => none
  | b :: bs => if byteViolates b then some k else firstViolationFrom (k + 1) bs

/-- The first capture byte, in ascending index order, that holds a violating group (R162). -/
def firstViolation (cap : Vector Byte 20) : Option Nat := firstViolationFrom 0 cap.toList

/-- Decoded byte m: the earlier byte of the pair gives the high nibble, the later the low one (R66, R88). -/
def decodedByte (order : GroupOrder) (cap : Vector Byte 20) (m : Fin 10) : Byte :=
  nibbleOf order cap[2 * m.val] ++ nibbleOf order cap[2 * m.val + 1]

/-- DBUF after a successful line decode: ten decoded bytes, and 0x00 in DBUF[10] (R160, R163). -/
def decodedBuffer (order : GroupOrder) (cap : Vector Byte 20) : Vector Byte 11 :=
  Vector.ofFn fun i : Fin 11 => if h : i.val < 10 then decodedByte order cap ⟨i.val, h⟩ else 0x00#8

/-- LineDecode(): the failing capture index if there is one, and the state after. CONSUMED is written in both cases, DBUF
only on success (R160, R163). -/
def lineDecode (s : State) : Option Byte × State :=
  match firstViolation s.cap with
  | some k => (some (BitVec.ofNat 8 k), { s with consumed := BitVec.ofNat 8 k })
  | none =>
    (none, { s with
      dbuf := decodedBuffer Config.groupOrder s.cap
      consumed := BitVec.ofNat 8 Config.capLen })

end Sys2Proof.Machine
end

