-- ==== Sys2Proof/Machine/Realigner.lean ====
section
/-! DEFINITION. The BitstreamRealigner stage (43_realigner.md R180 to R183). -/

namespace Sys2Proof.Machine

/-- A byte shifted right by one, its vacated top bit filled from `top`: `(b >> 1) | (zext_8(top) << 7)` (R180). -/
def shiftIn (top : Bit) (b : Byte) : Byte := (b >>> 1) ||| (top.setWidth 8 <<< 7)

/-- The loop of R180, in place, from index `i` down to 1: the highest index first, so that the source bit is read before
it is overwritten. -/
def realignLoop : Nat → Vector Byte 11 → Vector Byte 11
  | 0, d => d
  | i + 1, d =>
    realignLoop i (if h : i + 1 < 11 then d.set (i + 1) (shiftIn (bitAt d[i] 0) d[i + 1]) else d)

/-- The realigned buffer: the loop from index 10, then the polarity flag into the top bit of byte 0 (R180, R182). -/
def realigned (pol : Bit) (d : Vector Byte 11) : Vector Byte 11 :=
  let d' := realignLoop 10 d
  d'.set 0 (shiftIn pol d'[0])

/-- Realign() (R180). -/
def realign (s : State) : State := { s with dbuf := realigned s.pol s.dbuf }

end Sys2Proof.Machine
end

