-- ==== Sys2Proof/Machine/Unpacker.lean ====
section
/-! DEFINITION. The PacketUnpacker stage (44_unpacker.md R190 to R193; 90_conflicts.md C1). -/

namespace Sys2Proof.Machine

/-- Packet byte i: R[0], then the 8-bit windows that start i bits into R[i], then R[9] (R190, R191). -/
def packetByte (r : Vector Byte 11) (i : Fin 9) : Byte :=
  if i.val = 0 then r[0]
  else if i.val = 8 then r[9]
  else (r[i.val] <<< i.val) ||| (r[i.val + 1] >>> (8 - i.val))

/-- Parity bit i: bit 7-i of R[i+1], and for i = 8 bit 7 of R[10] (R190, R192; the literal tap is
93_implementation_defined.md I2's comparison setting). -/
def parityBit (tap : ParityTap) (r : Vector Byte 11) (i : Fin 9) : Bit :=
  if i.val = 8 then bitAt r[10] 7
  else
    match tap with
    | .geometric => bitAt r[i.val + 1] (7 - i.val)
    | .literal => bitAt r[i.val + 1] 7

/-- The Packet of a realigned buffer (R190). -/
def packetOf (r : Vector Byte 11) : Vector Byte 9 := Vector.ofFn (packetByte r)

/-- The ParityBits of a realigned buffer (R190). -/
def parityBitsOf (tap : ParityTap) (r : Vector Byte 11) : Vector Bit 9 := Vector.ofFn (parityBit tap r)

/-- Unpack() (R190). -/
def unpack (s : State) : State :=
  { s with
    pkt := packetOf s.dbuf
    par := parityBitsOf Config.parityTap s.dbuf }

end Sys2Proof.Machine
end

