-- ==== Sys2Proof/Machine/Validator.lean ====
section
/-! DEFINITION. The IntegrityValidator stage (45_validator.md R210 to R213). -/

namespace Sys2Proof.Machine

/-- Packet byte i fails its check: parity8(PKT[i]) ≠ PAR[i] (R210). -/
def parityMismatch (pkt : Vector Byte 9) (par : Vector Bit 9) (i : Fin 9) : Bool := parity8 pkt[i] != par[i]

/-- The packet bytes that are checked, in the order they are checked; byte 8 is not among them (R210, R212). -/
def checkedBytes : List (Fin 9) := [0, 1, 2, 3, 4, 5, 6, 7]

/-- Validate(): the lowest failing index, none when all eight bytes pass (R210, R211). It writes no state. -/
def validate (pkt : Vector Byte 9) (par : Vector Bit 9) : Option (Fin 9) :=
  checkedBytes.find? (parityMismatch pkt par)

end Sys2Proof.Machine
end

