-- ==== Sys2Proof/Machine/Sequencer.lean ====
section
/-! DEFINITION. The sequencer: its transitions (41_commands.md R140 to R146), the effects of the commands (R134, R135, R136)
and the completion step (R132). -/

namespace Sys2Proof.Machine

/-- The transition from IDLE: line decode, then realign unless a violation ends the call (R141). -/
def transitionIdle (s : State) : State :=
  match lineDecode (s.setPhase .lineDecoding) with
  | (some k, t) => t.raiseManchester k
  | (none, t) => (realign t).setPhase .realigned

/-- The transition from REALIGNED (R142). -/
def transitionRealigned (s : State) : State := (unpack s).setPhase .unpacked

/-- The transition from UNPACKED: validate, then dewhiten unless a mismatch ends the call (R143). -/
def transitionUnpacked (s : State) : State :=
  let t := s.setPhase .validating
  match validate t.pkt t.par with
  | some idx => t.raiseParity (BitVec.ofNat 8 idx.val)
  | none => (dewhiten t).setPhase .dewhitened

/-- The transition from DEWHITENED (R144). -/
def transitionDewhitened (s : State) : State := (extract s).setPhase .extracted

/-- Transition(): chosen by PHASE; in a terminal or transient phase it is never called, and the model faults (R140). -/
def transition (s : State) : Result :=
  match s.phase with
  | .idle => .next (transitionIdle s)
  | .realigned => .next (transitionRealigned s)
  | .unpacked => .next (transitionUnpacked s)
  | .dewhitened => .next (transitionDewhitened s)
  | .lineDecoding => .fault (.unreachableTransition .lineDecoding)
  | .violation => .fault (.unreachableTransition .violation)
  | .validating => .fault (.unreachableTransition .validating)
  | .parityFailure => .fault (.unreachableTransition .parityFailure)
  | .extracted => .fault (.unreachableTransition .extracted)

/-- DECODE's loop `while PHASE not terminal: Transition()`, with at most the given number of transitions (R135). -/
def runCall : Nat → State → Result
  | 0, s => if s.phase.isTerminal then .next s else .fault .callBoundExceeded
  | n + 1, s =>
    if s.phase.isTerminal then .next s
    else
      match transition s with
      | .next t => runCall n t
      | .fault f => .fault f
      | .refused r => .refused r

/-- The effect of an accepted command at its completion: Effect(STEP), Effect(DECODE), Effect(CLEAR) (R134, R135, R136). -/
def commandEffect (c : Command) (s : State) : Result :=
  match c with
  | .decode => runCall Config.maxTransitions s.clearCall
  | .step => transition s
  | .clear => .next s.clearCall

/-- Completion: the effect of PENDING as one indivisible step, then BUSY <- 0 and PENDING <- none (R132). -/
def complete (s : State) : Result :=
  match s.pending with
  | none => .fault .completionWithoutCommand
  | some c =>
    match commandEffect c s with
    | .next t => .next t.finish
    | .fault f => .fault f
    | .refused r => .refused r

end Sys2Proof.Machine
end

