-- ==== Sys2Proof/Machine/Step.lean ====
section
/-! DEFINITION. One step of the machine: a host transaction, a completion or a reset, each indivisible (20_memory.md R69,
41_commands.md R132, 70_reset_and_hazards.md R280). -/

namespace Sys2Proof.Machine

/-- One step. -/
def step (s : State) : Host.Outcome State Fault Refusal :=
  match nextTurn s with
  | .idle => .next s
  | .complete t => complete t
  | .skip t => .next t
  | .reset t => .next t
  | .run i t => exec i t
  | .notATransaction w => .refused (.notATransaction w)

/-- `s` with the table row's bits presented as the host's next transaction word; nothing else changes. -/
def State.withFetchWord (s : State) (nbits w : Nat) : State := s.presentNext (tableWord nbits w)

end Sys2Proof.Machine
end

