-- ==== Sys2Proof/Machine/Timed.lean ====
section
/-! DEFINITION. The machine with T_CMD as an argument (00_scope.md R7, 41_commands.md R132, 70_reset_and_hazards.md R291): the
untimed `step` admits every schedule, and this step forces the completion that a given T_CMD no longer lets wait.
DESIGN CHOICE, safe: log entry 4. -/

namespace Sys2Proof.Machine

/-- The next event is a host transaction. -/
def State.transactionNext (s : State) : Bool :=
  match s.events with
  | .txn _ :: _ => true
  | .completion :: _ => false
  | .rst :: _ => false
  | [] => false

/-- Completion "fires before the host's (T_CMD + 1)-th transaction after acceptance": it can wait no longer (R132). -/
def completionForced (tCmd : Nat) (s : State) : Bool :=
  s.busy && s.transactionNext && decide (tCmd ≤ s.busyTxns)

/-- One step of a core whose commands stay busy for at most `tCmd` host transactions. -/
def stepTimed (tCmd : Nat) (s : State) : Result :=
  if completionForced tCmd s then complete s else step s

end Sys2Proof.Machine
end

