-- ==== Sys2Proof/Machine/Transmitter.lean ====
section
/-! DEFINITION. The other side of the wire, as far as the spec gives it: re-whitening (46_dewhitener.md R222), the 81-bit frame
(00_scope.md R13, 30_encoding.md R89), the symbol coding of a nibble (30_encoding.md R87). Claims about a whole decode call are
stated with it; no step of the core uses it. -/

namespace Sys2Proof.Machine

/-- The whitened byte i of a chain of dewhitened bytes, each from the whitened byte before it (R222). -/
def whitenedByte (dew : Vector Byte 9) : (i : Nat) → i < 9 → Byte
  | 0, _ => dew[0] ^^^ Config.whitenSeed
  | i + 1, h => (whitenedByte dew i (by omega) + Config.whitenAdd) ^^^ dew[i + 1]

/-- The Packet whose dewhitening is `dew` (R222). -/
def whitened (dew : Vector Byte 9) : Vector Byte 9 := Vector.ofFn fun i : Fin 9 => whitenedByte dew i.val i.isLt

/-- The parity bits that pass validation; PAR[8] is not checked and is given (R210, R212). -/
def parityFor (pkt : Vector Byte 9) (par8 : Bit) : Vector Bit 9 :=
  Vector.ofFn fun i : Fin 9 => if i.val = 8 then par8 else parity8 pkt[i]

/-- Frame bit b: bits 9i to 9i+7 are packet byte i, most significant bit first, and bit 9i+8 is PAR[i] (R13). -/
def frameBit (pkt : Vector Byte 9) (par : Vector Bit 9) (b : Fin 81) : Bit :=
  if b.val % 9 = 8 then par[b.val / 9]'(by omega)
  else bitAt (pkt[b.val / 9]'(by omega)) (7 - b.val % 9)

/-- Decoded byte m of a frame: the sync word takes frame bit 0, so the byte holds frame bits 8m+1 to 8m+8 (R13, R89). -/
def framedByte (pkt : Vector Byte 9) (par : Vector Bit 9) (m : Fin 10) : Byte :=
  byteOfBits fun k => if h : 8 * m.val + k + 1 < 81 then frameBit pkt par ⟨8 * m.val + k + 1, h⟩ else 0#1

/-- The symbol group of a bit: 0b01 for 1, 0b10 for 0 (R87). -/
def groupFor (b : Bit) : BitVec 2 := if b = 1#1 then 0b01#2 else 0b10#2

/-- The capture byte of a nibble: group j codes nibble bit j (R87). -/
def captureByte (n : BitVec 4) : Byte :=
  groupFor (n.extractLsb' 3 1) ++ groupFor (n.extractLsb' 2 1) ++ groupFor (n.extractLsb' 1 1) ++ groupFor (n.extractLsb' 0 1)

/-- The capture of ten decoded bytes: the high nibble in the earlier byte of each pair (R66, R88). -/
def captureOf (d : Vector Byte 10) : Vector Byte 20 :=
  Vector.ofFn fun s : Fin 20 =>
    let b := d[s.val / 2]'(by omega)
    captureByte (if s.val % 2 = 0 then b.extractLsb' 4 4 else b.extractLsb' 0 4)

/-- The capture a receiver hands over for a packet and its parity bits. -/
def captureOfPacket (pkt : Vector Byte 9) (par : Vector Bit 9) : Vector Byte 20 :=
  captureOf (Vector.ofFn (framedByte pkt par))

/-- The polarity flag that goes with it: frame bit 0, the top bit of packet byte 0 (R183). -/
def polarityOfPacket (pkt : Vector Byte 9) : Bit := bitAt pkt[0] 7

end Sys2Proof.Machine
end

