-- ==== Sys2Proof/Safety.lean ====
section
/-! DEFINITION. The consistency the spec gives every state the core reaches (10_state.md R23, R24, R31 to R33, R46;
43_realigner.md R182; 60_exceptions.md R253; 41_commands.md R140), and what a safe step is, in the terms claims use. -/

namespace Sys2Proof.Machine

/-- SERIAL, HUMIDITY, TEMP, TINT and TFRAC are 0: no Reading (R46, R253). -/
def State.noReading (s : State) : Prop :=
  s.serial = 0x00#8 ∧ s.humidity = 0x00#8 ∧ s.temp = 0x0000#16 ∧ s.tint = 0x0000#16 ∧ s.tfrac = 0x00#8

/-- The Reading is what Extract makes of DEW (R234). -/
def State.readingOfDew (s : State) : Prop :=
  s.serial = s.dew[4] ∧ s.humidity = s.dew[7] ∧ s.temp = temperatureOf s.dew ∧
    s.tint = integerPart s.temp ∧ s.tfrac = fractionDigit s.temp

/-- PKT and PAR are 0 (R40, R41). -/
def State.noPacket (s : State) : Prop := s.pkt = Vector.replicate 9 0x00#8 ∧ s.par = Vector.replicate 9 0#1

/-- PKT and PAR are what Unpack makes of DBUF (R190). -/
def State.packetOfDbuf (s : State) : Prop := s.pkt = packetOf s.dbuf ∧ s.par = parityBitsOf .geometric s.dbuf

/-- DEW is 0 (R42). -/
def State.noDew (s : State) : Prop := s.dew = Vector.replicate 9 0x00#8

/-- How far a call's results have come is exactly what PHASE says; no stage's result stands before its stage, and no
transient phase is held between steps (R23, R25, R46, R251, R252, R253). -/
def State.resultsMatchPhase (s : State) : Prop :=
  match s.phase with
  | .idle | .violation => s.dbuf = Vector.replicate 11 0x00#8 ∧ s.noPacket ∧ s.noDew ∧ s.noReading
  | .realigned => s.noPacket ∧ s.noDew ∧ s.noReading
  | .unpacked => s.packetOfDbuf ∧ s.noDew ∧ s.noReading
  | .parityFailure =>
    s.packetOfDbuf ∧ (validate s.pkt s.par).map (fun i => BitVec.ofNat 8 i.val) = some s.erridx ∧ s.noDew ∧ s.noReading
  | .dewhitened =>
    s.packetOfDbuf ∧ validate s.pkt s.par = none ∧ s.dew = dewhitened s.pkt ∧ s.noReading
  | .extracted =>
    s.packetOfDbuf ∧ validate s.pkt s.par = none ∧ s.dew = dewhitened s.pkt ∧ s.readingOfDew
  | .lineDecoding | .validating => False

/-- ERRKIND, ERRIDX and CONSUMED are what PHASE says (R31, R32, R33). -/
def State.errorMatchesPhase (s : State) : Prop :=
  match s.phase with
  | .idle => s.errkind = .none ∧ s.erridx = 0x00#8 ∧ s.consumed = 0x00#8
  | .violation => s.errkind = .manchester ∧ s.erridx.toNat < 20 ∧ s.consumed = s.erridx
  | .parityFailure => s.errkind = .parity ∧ s.erridx.toNat < 8 ∧ s.consumed = 20#8
  | .realigned | .unpacked | .dewhitened | .extracted => s.errkind = .none ∧ s.erridx = 0x00#8 ∧ s.consumed = 20#8
  | .lineDecoding | .validating => False

/-- The invariant of the machine. -/
structure State.Consistent (s : State) : Prop where
  /-- PENDING holds a command exactly while BUSY = 1 (R24). -/
  inFlight : s.busy = s.pending.isSome
  /-- A STEP in flight was accepted in a phase that is not terminal (R130). -/
  stepAccepted : s.pending = some .step → s.phase.isTerminal = false
  /-- CMDCAUSE is nonzero exactly when CMDERR = 1 (R31). -/
  causeMatches : s.cmderr = (s.cmdcause != .none)
  errorMatches : s.errorMatchesPhase
  resultsMatch : s.resultsMatchPhase
  /-- DBUF[10] bits 6:0 are 0 (R182). -/
  unusedBits : s.dbuf[10] &&& 0x7F#8 = 0x00#8

/-- A step that reaches a next state, or refuses a word that spells no transaction; it never faults. -/
def safeOutcome (r : Result) : Prop :=
  match r with
  | .next _ => True
  | .fault _ => False
  | .refused r => ∃ w, r = .notATransaction w

/-- Every word the host is going to present spells a transaction (R85, R86). -/
def State.wordsDecode (s : State) : Prop :=
  ∀ w, Event.txn w ∈ s.events → ∃ i, decode w = .instr i

/-- `n` transitions of the sequencer, one after the other (R140). -/
def transitions : Nat → State → Result
  | 0, s => .next s
  | n + 1, s =>
    match transition s with
    | .next t => transitions n t
    | .fault f => .fault f
    | .refused r => .refused r

/-- The number of transactions a command has waited keeps within T_CMD (R132). -/
def State.withinTCmd (tCmd : Nat) (s : State) : Prop := s.busy = true → s.busyTxns ≤ tCmd

end Sys2Proof.Machine
end

