-- ==== Sys2Proof/Certificates/Slice0/Obligations.lean ====
section
/-! DEFINITION. The statements for the provers, each from a rule of spec/. -/

open Sys2Proof Sys2Proof.Machine

/-! ### Words (30_encoding.md) -/

/-- R80, R81, R84: no bit of a well-formed transaction is lost between its word and its decoding. -/
def Obligations.DecodeOfEncode : Prop :=
  ∀ i : Instr, i.wf = true → decode (encode i) = .instr i

/-- R85, R86: a word either spells one well-formed transaction, whose word it is, or is a RD word with DATA ≠ 0. -/
def Obligations.DecoderPartitionsWords : Prop :=
  ∀ w : TxnWord,
    (∃ i, decode w = .instr i ∧ i.wf = true ∧ encode i = w) ∨
    (decode w = .notATransaction w ∧ fieldWE w = 0#1 ∧ fieldDATA w ≠ 0x00#8)

/-- R85: the five cases, and every word falls under one of them. -/
def Obligations.DecodeFollowsFiveCases : Prop :=
  (decode (txnWord 1#1 0x15#7 0x00#8) = .instr .nop ∧ decode (txnWord 1#1 0x15#7 0x01#8) = .instr .decode ∧
    decode (txnWord 1#1 0x15#7 0x02#8) = .instr .step ∧ decode (txnWord 1#1 0x15#7 0x03#8) = .instr .clear) ∧
  (∀ v : Byte, 4 ≤ v.toNat → decode (txnWord 1#1 0x15#7 v) = .instr (.reservedCmd v)) ∧
  (∀ (off : Offset) (v : Byte), off ≠ 0x15#7 → decode (txnWord 1#1 off v) = .instr (.wr off v)) ∧
  (∀ off : Offset, decode (txnWord 0#1 off 0x00#8) = .instr (.rd off)) ∧
  (∀ (off : Offset) (v : Byte), v ≠ 0x00#8 → decode (txnWord 0#1 off v) = .notATransaction (txnWord 0#1 off v)) ∧
  (∀ w : TxnWord, ∃ we off v, w = txnWord we off v)

/-- R80, R84: words the spec writes out decode to what it says they spell. -/
def Obligations.SpecWordsDecode : Prop :=
  decode 0x9500#16 = .instr .nop ∧ decode 0x9501#16 = .instr .decode ∧ decode 0x9502#16 = .instr .step ∧
  decode 0x9503#16 = .instr .clear ∧ decode 0x9504#16 = .instr (.reservedCmd 0x04#8) ∧
  decode 0x9401#16 = .instr (.wr 0x14#7 0x01#8) ∧ decode 0x856A#16 = .instr (.wr 0x05#7 0x6A#8) ∧
  decode 0x1600#16 = .instr (.rd 0x16#7)

/-! ### The step (20_memory.md R69, R70; 41_commands.md R132; 70_reset_and_hazards.md R280) -/

/-- R70, R80: a presented word that spells a transaction is run; around it the word leaves the event list and counts
against T_CMD while BUSY = 1 (log entry 4). The second clause says the same of a word placed by withFetchWord. -/
def Obligations.StepRunsPresentedTransaction : Prop :=
  (∀ (s : State) (w : TxnWord) (es : List Event) (i : Instr), s.events = .txn w :: es → decode w = .instr i →
    step s = exec i { s with events := es, busyTxns := if s.busy then s.busyTxns + 1 else s.busyTxns }) ∧
  (∀ (s : State) (w : Nat) (i : Instr), decodeTableWord 16 w = some i →
    step (s.withFetchWord 16 w) = exec i { s with busyTxns := if s.busy then s.busyTxns + 1 else s.busyTxns })

/-- R85 case 5: the step refuses a RD word with DATA ≠ 0, naming it (log entry 11). -/
def Obligations.StepRefusesReadWithData : Prop :=
  ∀ (s : State) (off : Offset) (v : Byte) (es : List Event), v ≠ 0x00#8 →
    s.events = .txn (txnWord 0#1 off v) :: es → step s = .refused (.notATransaction (txnWord 0#1 off v))

/-- R132: completion is enabled exactly while BUSY = 1, performs the effect of PENDING, and ends with BUSY = 0 and PENDING =
none. A completion event with BUSY = 0 is dropped, and one is due when no event is left (log entry 1). -/
def Obligations.CompletionFiresWhileBusy : Prop :=
  (∀ (s : State) (es : List Event), s.events = .completion :: es → s.busy = true → step s = complete { s with events := es }) ∧
  (∀ (s : State) (es : List Event), s.events = .completion :: es → s.busy = false → step s = .next { s with events := es }) ∧
  (∀ s : State, s.events = [] → s.busy = true → step s = complete s) ∧
  (∀ (s u : State) (c : Command), s.pending = some c → commandEffect c s = .next u →
    complete s = .next { u with busy := false, pending := none })

/-- R276: with nothing presented, a core with BUSY = 0 keeps all its state (the event list is log entry 1's). -/
def Obligations.IdleCoreTakesNoStep : Prop :=
  ∀ s : State, s.events = [] → s.busy = false → step s = .next s

/-- R280: reset, between any two steps and also with a command in flight, gives every element its reset value. The port's
events and bytes and the draw counter are not elements of the core (log entries 1 to 3). -/
def Obligations.ResetEventResetsCore : Prop :=
  ∀ (s : State) (es : List Event), s.events = .rst :: es →
    step s = .next { State.reset with events := es, reads := s.reads, draws := s.draws }

/-- R45: the reset value of every element of R20; and the whole window then reads 0x00. -/
def Obligations.ResetValues : Prop :=
  ((∀ i : Fin 20, State.reset.cap[i] = 0x00#8) ∧ State.reset.pol = 0#1 ∧ State.reset.phase = .idle ∧
    State.reset.busy = false ∧ State.reset.pending = none ∧ State.reset.cmderr = false ∧ State.reset.cmdcause = .none ∧
    State.reset.errkind = .none ∧ State.reset.erridx = 0x00#8 ∧ State.reset.consumed = 0x00#8 ∧
    (∀ i : Fin 11, State.reset.dbuf[i] = 0x00#8) ∧ (∀ i : Fin 9, State.reset.pkt[i] = 0x00#8) ∧
    (∀ i : Fin 9, State.reset.par[i] = 0#1) ∧ (∀ i : Fin 9, State.reset.dew[i] = 0x00#8) ∧
    State.reset.serial = 0x00#8 ∧ State.reset.humidity = 0x00#8 ∧ State.reset.temp = 0x0000#16 ∧
    State.reset.tint = 0x0000#16 ∧ State.reset.tfrac = 0x00#8) ∧
  (∀ off : Offset, State.reset.readValue off = 0x00#8)

/-! ### RD (40_host_access.md R110, R112; 20_memory.md R67) -/

/-- R110: with BUSY = 0 a RD completes at every offset and returns ReadValue; nothing else changes. The list
of read bytes is the model's (log entry 2). -/
def Obligations.ReadAtRest : Prop :=
  ∀ (s : State) (off : Offset), s.busy = false →
    exec (.rd off) s = .next { s with reads := s.readValue off :: s.reads }

/-- R26, R110, R63, R64: what ReadValue gives at each of the 128 offsets. The codes in STATUS and ERRINFO are
StatusAndErrinfoFields'. -/
def Obligations.RegisterMapReads : Prop :=
  ∀ s : State,
    (∀ i : Fin 20, s.readValue (BitVec.ofNat 7 i.val) = s.cap[i]) ∧
    s.readValue 0x14#7 = s.pol.setWidth 8 ∧ s.readValue 0x15#7 = 0x00#8 ∧
    s.readValue 0x16#7 = (BitVec.ofBool s.cmderr ++ BitVec.ofBool (decide (s.phase = .violation ∨ s.phase = .parityFailure)) ++
      BitVec.ofBool (decide (s.phase = .extracted)) ++ BitVec.ofBool s.busy ++ s.phase.code : Byte) ∧
    s.readValue 0x17#7 = (0#2 ++ s.cmdcause.code ++ 0#2 ++ s.errkind.code : Byte) ∧
    s.readValue 0x18#7 = s.erridx ∧ s.readValue 0x19#7 = s.consumed ∧
    s.readValue 0x1A#7 = s.serial ∧ s.readValue 0x1B#7 = s.humidity ∧
    s.readValue 0x1D#7 ++ s.readValue 0x1C#7 = s.temp ∧ s.readValue 0x1F#7 ++ s.readValue 0x1E#7 = s.tint ∧
    s.readValue 0x20#7 = s.tfrac ∧
    (∀ i : Fin 11, s.readValue (BitVec.ofNat 7 (0x30 + i.val)) = s.dbuf[i]) ∧
    (∀ i : Fin 9, s.readValue (BitVec.ofNat 7 (0x40 + i.val)) = s.pkt[i]) ∧
    (∀ i : Fin 8, (s.readValue 0x49#7).extractLsb' i.val 1 = s.par[i.val]) ∧
    s.readValue 0x4A#7 = s.par[8].setWidth 8 ∧
    (∀ i : Fin 9, s.readValue (BitVec.ofNat 7 (0x50 + i.val)) = s.dew[i]) ∧
    (∀ off : Offset, (0x21 ≤ off.toNat ∧ off.toNat ≤ 0x2F) ∨ (0x3B ≤ off.toNat ∧ off.toNat ≤ 0x3F) ∨
      (0x4B ≤ off.toNat ∧ off.toNat ≤ 0x4F) ∨ 0x59 ≤ off.toNat → s.readValue off = 0x00#8)

/-- R23, R30, R31, R256: the fields of STATUS and ERRINFO, bit by bit, with every code. -/
def Obligations.StatusAndErrinfoFields : Prop :=
  ∀ s : State,
    ((s.readValue 0x16#7).extractLsb' 0 4 = match s.phase with
      | .idle => 0#4 | .lineDecoding => 1#4 | .violation => 2#4 | .realigned => 3#4 | .unpacked => 4#4
      | .validating => 5#4 | .parityFailure => 6#4 | .dewhitened => 7#4 | .extracted => 8#4) ∧
    ((s.readValue 0x16#7).getLsbD 4 = s.busy) ∧
    ((s.readValue 0x16#7).getLsbD 5 = decide (s.phase = .extracted)) ∧
    ((s.readValue 0x16#7).getLsbD 6 = decide (s.phase = .violation ∨ s.phase = .parityFailure)) ∧
    ((s.readValue 0x16#7).getLsbD 7 = s.cmderr) ∧
    ((s.readValue 0x17#7).extractLsb' 0 2 = match s.errkind with
      | .none => 0#2 | .manchester => 1#2 | .parity => 2#2) ∧
    ((s.readValue 0x17#7).extractLsb' 2 2 = 0#2) ∧
    ((s.readValue 0x17#7).extractLsb' 4 2 = match s.cmdcause with
      | .none => 0#2 | .reservedOpcode => 1#2 | .stepInTerminal => 2#2 | .writeWhileBusy => 3#2) ∧
    ((s.readValue 0x17#7).extractLsb' 6 2 = 0#2)

/-- R112: with BUSY = 1, STATUS reads a draw around bit 4 = 1, every offset of DRAW_SET reads a draw, and every other offset
reads as at rest. The draws are free values: Config.draw3, draw4 and draw8 have no body (log entry 3). -/
def Obligations.ReadWhileBusyIsDraw : Prop :=
  ∀ s : State, s.busy = true →
    exec (.rd 0x16#7) s = .next { s with
      reads := (Config.draw3 s.draws ++ 1#1 ++ Config.draw4 s.draws) :: s.reads, draws := s.draws + 1 } ∧
    (∀ off : Offset, (0x17 ≤ off.toNat ∧ off.toNat ≤ 0x20) ∨ (0x30 ≤ off.toNat ∧ off.toNat ≤ 0x3A) ∨
        (0x40 ≤ off.toNat ∧ off.toNat ≤ 0x4A) ∨ (0x50 ≤ off.toNat ∧ off.toNat ≤ 0x58) →
      exec (.rd off) s = .next { s with reads := Config.draw8 s.draws :: s.reads, draws := s.draws + 1 }) ∧
    (∀ off : Offset, off.toNat ≤ 0x15 ∨ (0x21 ≤ off.toNat ∧ off.toNat ≤ 0x2F) ∨
        (0x3B ≤ off.toNat ∧ off.toNat ≤ 0x3F) ∨ (0x4B ≤ off.toNat ∧ off.toNat ≤ 0x4F) ∨ 0x59 ≤ off.toNat →
      exec (.rd off) s = .next { s with reads := s.readValue off :: s.reads })

/-- R67: a read, at any offset and busy or not, changes no element of the core; where it is no draw, reading again returns
the same byte. The list of read bytes and the draw counter are the model's (log entries 2, 3). -/
def Obligations.ReadsChangeNoRegister : Prop :=
  ∀ (s : State) (off : Offset), ∃ (b : Byte) (d : Nat),
    exec (.rd off) s = .next { s with reads := b :: s.reads, draws := d } ∧
    (s.busy = false ∨ readsAsDraw off = false →
      exec (.rd off) { s with reads := b :: s.reads, draws := d } =
        .next { s with reads := b :: b :: s.reads, draws := d })

/-! ### WR (40_host_access.md R111, R113) -/

/-- R111, R28, R43: with BUSY = 0, CAP and CTRL take the byte, and every offset above CMD ignores it; nothing else changes. -/
def Obligations.WriteStores : Prop :=
  ∀ (s : State) (v : Byte), s.busy = false →
    (∀ i : Fin 20, exec (.wr (BitVec.ofNat 7 i.val) v) s = .next { s with cap := s.cap.set i v }) ∧
    exec (.wr 0x14#7 v) s = .next { s with pol := v.extractLsb' 0 1 } ∧
    (∀ off : Offset, 0x16 ≤ off.toNat → exec (.wr off v) s = .next s)

/-- R111, R70, R289: a register write with BUSY = 0 leaves every other offset of the window reading as before; the written
one reads back the byte (CAP), its bit 0 (CTRL), or as before. -/
def Obligations.WriteFrameOfWindow : Prop :=
  ∀ (s : State) (off : Offset) (v : Byte), s.busy = false → off ≠ 0x15#7 →
    ∃ t, exec (.wr off v) s = .next t ∧
      (∀ a : Offset, a ≠ off → t.readValue a = s.readValue a) ∧
      t.readValue off =
        (if off.toNat < 0x14 then v else if off = 0x14#7 then (v.extractLsb' 0 1).setWidth 8 else s.readValue off)

/-- R131, R133, R137, R255: a command, accepted or not, leaves every element but BUSY, PENDING, CMDERR and CMDCAUSE, and so
every offset of the window but STATUS and ERRINFO. busyTxns is the model's counter (log entry 4); a command also
stands for the term wr 0x15 v, whose meaning is log entry 10's (DESIGN CHOICE). -/
def Obligations.CommandFrame : Prop :=
  ∀ (i : Instr) (s : State), i.isCommand = true →
    ∃ t, exec i s = .next t ∧
      t = { s with busy := t.busy, pending := t.pending, cmderr := t.cmderr, cmdcause := t.cmdcause, busyTxns := t.busyTxns } ∧
      (∀ a : Offset, a ≠ 0x16#7 → a ≠ 0x17#7 → t.readValue a = s.readValue a)

/-- R111's case 0x15, R130: the term wr 0x15 v does what the command of byte v does. That term is not well formed and no word
decodes to it (R85): its meaning is the model's choice, log entry 10 (DESIGN CHOICE). -/
def Obligations.WritesToCmdAreCommands : Prop :=
  ∀ (v : Byte) (s : State), exec (.wr 0x15#7 v) s = exec (decodeCommand v) s

/-- R113, R255, R257: every write while BUSY = 1 is dropped, whatever its offset and data, and raises WRITE_WHILE_BUSY. -/
def Obligations.WriteWhileBusyDropped : Prop :=
  ∀ (i : Instr) (s : State), i.isWrite = true → s.busy = true →
    exec i s = .next { s with
      cmdcause := if s.cmderr then s.cmdcause else .writeWhileBusy, cmderr := true }

/-! ### Commands (41_commands.md R130 to R137) -/

/-- R133: NOP with BUSY = 0 changes nothing, in every phase. -/
def Obligations.NopDoesNothing : Prop :=
  ∀ s : State, s.busy = false → exec .nop s = .next s

/-- R130, R131, R135, R136: DECODE and CLEAR are accepted in every phase; acceptance clears CMDERR and CMDCAUSE, sets BUSY
and PENDING, and changes no other element. busyTxns is the model's counter (log entry 4). -/
def Obligations.DecodeAndClearAccepted : Prop :=
  ∀ s : State, s.busy = false →
    exec .decode s = .next { s with
      cmderr := false, cmdcause := .none, busy := true, pending := some .decode, busyTxns := 0 } ∧
    exec .clear s = .next { s with
      cmderr := false, cmdcause := .none, busy := true, pending := some .clear, busyTxns := 0 }

/-- R130, R131, R134: STEP is accepted outside the terminal phases; CMDERR and CMDCAUSE stay. busyTxns is the model's
counter (log entry 4). -/
def Obligations.StepAccepted : Prop :=
  ∀ s : State, s.busy = false → s.phase ≠ .violation → s.phase ≠ .parityFailure → s.phase ≠ .extracted →
    exec .step s = .next { s with busy := true, pending := some .step, busyTxns := 0 }

/-- R134, R254: STEP in a terminal phase is not accepted and raises STEP_IN_TERMINAL. -/
def Obligations.StepInTerminalRaisesCommandError : Prop :=
  ∀ s : State, s.busy = false → (s.phase = .violation ∨ s.phase = .parityFailure ∨ s.phase = .extracted) →
    exec .step s = .next { s with
      cmdcause := if s.cmderr then s.cmdcause else .stepInTerminal, cmderr := true }

/-- R137: a reserved command byte with BUSY = 0 raises RESERVED_OPCODE and changes nothing else. -/
def Obligations.ReservedCommandRaisesCommandError : Prop :=
  ∀ (s : State) (v : Byte), s.busy = false → 4 ≤ v.toNat →
    exec (.reservedCmd v) s = .next { s with
      cmdcause := if s.cmderr then s.cmdcause else .reservedOpcode, cmderr := true }

/-- R255: the entry of a CommandError, and what leaves it: the acceptance of DECODE or CLEAR, and reset. -/
def Obligations.CommandErrorEntryAndExit : Prop :=
  (∀ (s : State) (c : CmdCause), s.raiseCommandError c =
    { s with cmdcause := if s.cmderr = false then c else s.cmdcause, cmderr := true }) ∧
  (∀ (s : State) (i : Instr), s.busy = false → i = .decode ∨ i = .clear →
    ∃ t, exec i s = .next t ∧ t.cmderr = false ∧ t.cmdcause = .none) ∧
  (∀ s : State, s.resetCore.cmderr = false ∧ s.resetCore.cmdcause = .none)

/-- R255, R257 item 6: over any transaction that leaves CMDERR = 1 standing, CMDCAUSE keeps the first cause. -/
def Obligations.FirstCauseKept : Prop :=
  ∀ (i : Instr) (s t : State), exec i s = .next t → s.cmderr = true → t.cmderr = true → t.cmdcause = s.cmdcause

/-! ### Whole-machine rules -/

/-- R20, R22, R131, R255: no transaction moves the call: PHASE, the error and result elements and the buffers change only
at a completion or reset. -/
def Obligations.TransactionsMoveNoCall : Prop :=
  ∀ (i : Instr) (s t : State), exec i s = .next t →
    t = { s with
      cap := t.cap, pol := t.pol, busy := t.busy, pending := t.pending, cmderr := t.cmderr, cmdcause := t.cmdcause,
      reads := t.reads, draws := t.draws, busyTxns := t.busyTxns }

/-- R25, R74: CAP and POL change only by a host write of a CAP register or CTRL with BUSY = 0, and by reset. -/
def Obligations.CaptureChangedOnlyByHost : Prop :=
  ∀ s t : State, step s = .next t →
    (t.cap = s.cap ∧ t.pol = s.pol) ∨ (∃ es, s.events = .rst :: es) ∨
    (s.busy = false ∧ ∃ es off v, s.events = .txn (txnWord 1#1 off v) :: es ∧ off.toNat < 0x15)

/-- R44, R131: BUSY goes from 0 to 1 only by the acceptance of DECODE, STEP or CLEAR, which PENDING then holds. -/
def Obligations.BusySetOnlyByAcceptance : Prop :=
  ∀ s t : State, step s = .next t → s.busy = false → t.busy = true →
    ∃ es, (s.events = .txn 0x9501#16 :: es ∧ t.pending = some .decode) ∨
      (s.events = .txn 0x9502#16 :: es ∧ t.pending = some .step ∧ s.phase.isTerminal = false) ∨
      (s.events = .txn 0x9503#16 :: es ∧ t.pending = some .clear)

/-- R44, R259: CMDERR goes from 1 to 0 only by the acceptance of DECODE or CLEAR, or by reset. -/
def Obligations.CommandErrorClearedOnlyBy : Prop :=
  ∀ s t : State, step s = .next t → s.cmderr = true → t.cmderr = false →
    ∃ es, s.events = .rst :: es ∨
      (s.busy = false ∧ (s.events = .txn 0x9501#16 :: es ∨ s.events = .txn 0x9503#16 :: es))

/-- R146, R254: a terminal phase is left only by reset, or by the completion of a DECODE or CLEAR: one that the event list
gives, or the one that is due when no event is left (log entry 1). -/
def Obligations.TerminalPhaseLeftOnlyBy : Prop :=
  ∀ s t : State, step s = .next t → s.phase.isTerminal = true → t.phase ≠ s.phase →
    (∃ es, s.events = .rst :: es) ∨
    (s.busy = true ∧ (s.events = [] ∨ ∃ es, s.events = .completion :: es) ∧
      (s.pending = some .decode ∨ s.pending = some .clear))

/-! ### The stages (42 to 47) -/

/-- R161: which groups violate, and which capture bytes are free of violations. -/
def Obligations.ViolationIsEqualPair : Prop :=
  (∀ g : BitVec 2, groupViolates g = true ↔ g = 0b00#2 ∨ g = 0b11#2) ∧
  (∀ b : Byte, byteViolates b = false ↔ ∀ j : Fin 4, b.getLsbD (2 * j.val + 1) ≠ b.getLsbD (2 * j.val))

/-- R162, R163: decoding stops at the first violating byte, whose index CONSUMED takes; DBUF is not written. -/
def Obligations.LineDecodeStopsAtFirstViolation : Prop :=
  ∀ (s : State) (k : Fin 20), byteViolates s.cap[k] = true → (∀ j : Fin 20, j < k → byteViolates s.cap[j] = false) →
    lineDecode s = (some (BitVec.ofNat 8 k.val), { s with consumed := BitVec.ofNat 8 k.val })

/-- R88, R160, R163: a capture without violations decodes, bit by bit, from its groups; DBUF[10] is 0x00, CONSUMED is 20. -/
def Obligations.LineDecodeOfCleanCapture : Prop :=
  ∀ s : State, (∀ k : Fin 20, byteViolates s.cap[k] = false) →
    ∃ d : Vector Byte 11, lineDecode s = (none, { s with dbuf := d, consumed := 20#8 }) ∧ d[10] = 0x00#8 ∧
      ∀ (m : Fin 10) (j : Fin 4),
        d[m.val].getLsbD (4 + j.val) = (s.cap[2 * m.val].extractLsb' (2 * j.val) 2 == 0b01#2) ∧
        d[m.val].getLsbD j.val = (s.cap[2 * m.val + 1].extractLsb' (2 * j.val) 2 == 0b01#2)

/-- R66, R87, R164: a capture built from valid symbols decodes to the bytes it was built from. -/
def Obligations.ValidSymbolsDecodeToChosenBytes : Prop :=
  ∀ (s : State) (d : Vector Byte 10), s.cap = captureOf d →
    ∃ buf : Vector Byte 11, lineDecode s = (none, { s with dbuf := buf, consumed := 20#8 }) ∧
      ∀ m : Fin 10, buf[m.val] = d[m]

/-- R181: the closed form of the Realign stage, over the buffer before the shift; it writes DBUF and nothing else. -/
def Obligations.RealignClosedForm : Prop :=
  ∀ s : State, ∃ r : Vector Byte 11, realign s = { s with dbuf := r } ∧
    r[0] = (s.pol ++ s.dbuf[0].extractLsb' 1 7 : Byte) ∧
    ∀ i : Fin 10, r[i.val + 1] = (s.dbuf[i.val].extractLsb' 0 1 ++ s.dbuf[i.val + 1].extractLsb' 1 7 : Byte)

/-- R190, R191, R192: the windows, bit by bit, and the parity taps. -/
def Obligations.UnpackWindows : Prop :=
  ∀ s : State, ∃ (p : Vector Byte 9) (q : Vector Bit 9), unpack s = { s with pkt := p, par := q } ∧
    p[0] = s.dbuf[0] ∧ p[8] = s.dbuf[9] ∧
    (∀ i : Fin 9, 1 ≤ i.val → i.val ≤ 7 → ∀ k : Fin 8,
      p[i].getLsbD k.val =
        if k.val < i.val then s.dbuf[i.val + 1].getLsbD (8 - i.val + k.val) else s.dbuf[i.val].getLsbD (k.val - i.val)) ∧
    (∀ i : Fin 8, q[i.val] = s.dbuf[i.val + 1].extractLsb' (7 - i.val) 1) ∧ q[8] = s.dbuf[10].extractLsb' 7 1

/-- R13: in the stream view, packet byte i is stream bits 9i to 9i+7, most significant first, and PAR[i] is bit 9i+8. -/
def Obligations.PacketIsFrameStream : Prop :=
  ∀ (r : Vector Byte 11) (i : Fin 9),
    (∀ k : Fin 8, (packetOf r)[i].extractLsb' (7 - k.val) 1 = streamBit r ⟨9 * i.val + k.val, by omega⟩) ∧
    (parityBitsOf .geometric r)[i] = streamBit r ⟨9 * i.val + 8, by omega⟩

/-- R193: R[10][6:0] reaches no packet bit and no parity bit. -/
def Obligations.UnusedBitsReachNothing : Prop :=
  ∀ r r' : Vector Byte 11, (∀ i : Fin 10, r[i.val] = r'[i.val]) → r[10].getLsbD 7 = r'[10].getLsbD 7 →
    packetOf r = packetOf r' ∧ parityBitsOf .geometric r = parityBitsOf .geometric r'

/-- R210, R211, R212: Validate reports the lowest failing index of bytes 0 to 7, and passes exactly when all eight do;
PKT[8] and PAR[8] are not looked at. -/
def Obligations.ValidateReportsLowestMismatch : Prop :=
  ∀ (pkt : Vector Byte 9) (par : Vector Bit 9),
    (∀ i : Fin 9, validate pkt par = some i ↔
      i.val < 8 ∧ parity8 pkt[i] ≠ par[i] ∧ ∀ j : Fin 9, j < i → parity8 pkt[j] = par[j]) ∧
    (validate pkt par = none ↔ ∀ i : Fin 8, parity8 pkt[i.val] = par[i.val])

/-- R213: flipping one bit of a checked byte of a passing packet fails at that byte; flipping two bits of one byte passes. -/
def Obligations.SingleFlipFailsDoubleFlipPasses : Prop :=
  ∀ (pkt : Vector Byte 9) (par : Vector Bit 9) (i : Fin 8) (j k : Fin 8), validate pkt par = none →
    validate (pkt.set i.val (pkt[i.val] ^^^ (1#8 <<< j.val))) par = some ⟨i.val, by omega⟩ ∧
    (j ≠ k → validate (pkt.set i.val (pkt[i.val] ^^^ (1#8 <<< j.val) ^^^ (1#8 <<< k.val))) par = none)

/-- R222: dewhitening is undone byte by byte and as a whole; the Dewhiten stage writes DEW and nothing else (R220). -/
def Obligations.RewhiteningRecoversPacket : Prop :=
  (∀ s : State, dewhiten s = { s with dew := dewhitened s.pkt }) ∧
  (∀ pkt : Vector Byte 9, pkt[0] = (dewhitened pkt)[0] ^^^ 0x89#8 ∧
    ∀ i : Fin 8, pkt[i.val + 1] = (pkt[i.val] + 0x24#8) ^^^ (dewhitened pkt)[i.val + 1]) ∧
  (∀ pkt : Vector Byte 9, whitened (dewhitened pkt) = pkt) ∧ (∀ d : Vector Byte 9, dewhitened (whitened d) = d)

/-- R230 to R235: the Reading's fields; the sign bit is clear, the division truncates toward zero, and its parts have their
ranges; and the division's formulas hold for every signed TEMP. -/
def Obligations.ExtractedFields : Prop :=
  (∀ s : State, ∃ t, extract s = { s with
      serial := t.serial, humidity := t.humidity, temp := t.temp, tint := t.tint, tfrac := t.tfrac } ∧ extract s = t ∧
    t.serial = s.dew[4] ∧ t.humidity = s.dew[7] ∧
    t.temp.toNat = 256 * (s.dew[5].toNat % 128) + s.dew[6].toNat ∧ t.temp.msb = false ∧
    t.tint.toNat = t.temp.toNat / 10 ∧ t.tfrac.toNat = t.temp.toNat % 10 ∧ t.tint.toNat ≤ 3276) ∧
  (∀ v : Half, (integerPart v).toInt = v.toInt.tdiv 10 ∧ (fractionDigit v).toInt = v.toInt.tmod 10 ∧
    v.toInt = 10 * (integerPart v).toInt + (fractionDigit v).toInt)

/-! ### Completions (41_commands.md R132 to R145) -/

/-- R134, R141, R251: a STEP from IDLE completes with line decode and realignment, or ends the call in VIOLATION at the
first violating capture byte. -/
def Obligations.StepFromIdleCompletes : Prop :=
  ∀ s : State, s.pending = some .step → s.phase = .idle →
    ((∀ k : Fin 20, byteViolates s.cap[k] = false) →
      complete s = .next { s with
        dbuf := realigned s.pol (decodedBuffer .sameRank s.cap), consumed := 20#8, phase := .realigned,
        busy := false, pending := none }) ∧
    (∀ k : Fin 20, byteViolates s.cap[k] = true → (∀ j : Fin 20, j < k → byteViolates s.cap[j] = false) →
      complete s = .next { s with
        consumed := BitVec.ofNat 8 k.val, errkind := .manchester, erridx := BitVec.ofNat 8 k.val, phase := .violation,
        busy := false, pending := none })

/-- R134, R142, R143, R144, R252: a STEP from REALIGNED, UNPACKED or DEWHITENED completes with the one transition of that
phase; from UNPACKED a mismatch ends the call in PARITY_FAILURE with no dewhitening. -/
def Obligations.StepFromLaterPhasesCompletes : Prop :=
  ∀ s : State, s.pending = some .step →
    (s.phase = .realigned → complete s = .next { s with
      pkt := packetOf s.dbuf, par := parityBitsOf .geometric s.dbuf, phase := .unpacked, busy := false, pending := none }) ∧
    (s.phase = .unpacked → (∀ i : Fin 8, parity8 s.pkt[i.val] = s.par[i.val]) → complete s = .next { s with
      dew := dewhitened s.pkt, phase := .dewhitened, busy := false, pending := none }) ∧
    (s.phase = .unpacked → ∀ i : Fin 8, parity8 s.pkt[i.val] ≠ s.par[i.val] →
      (∀ j : Fin 8, j < i → parity8 s.pkt[j.val] = s.par[j.val]) → complete s = .next { s with
        errkind := .parity, erridx := BitVec.ofNat 8 i.val, phase := .parityFailure, busy := false, pending := none }) ∧
    (s.phase = .dewhitened → complete s = .next { s with
      serial := s.dew[4], humidity := s.dew[7], temp := (s.dew[5] &&& 0x7F#8) ++ s.dew[6],
      tint := integerPart ((s.dew[5] &&& 0x7F#8) ++ s.dew[6]), tfrac := fractionDigit ((s.dew[5] &&& 0x7F#8) ++ s.dew[6]),
      phase := .extracted, busy := false, pending := none })

/-- R136, R138: a CLEAR completes with the per-call state at its IDLE values; CAP, POL, CMDERR and CMDCAUSE stay. -/
def Obligations.ClearCompletes : Prop :=
  ∀ s : State, s.pending = some .clear →
    complete s = .next { s with
      phase := .idle, errkind := .none, erridx := 0x00#8, consumed := 0x00#8,
      dbuf := Vector.replicate 11 0x00#8, pkt := Vector.replicate 9 0x00#8, par := Vector.replicate 9 0#1,
      dew := Vector.replicate 9 0x00#8, serial := 0x00#8, humidity := 0x00#8, temp := 0x0000#16, tint := 0x0000#16,
      tfrac := 0x00#8, busy := false, pending := none }

/-- R135, R145: a DECODE always completes, with the transitions from a cleared call to a terminal phase: one, three or four. -/
def Obligations.DecodeRunsTransitionsToTerminal : Prop :=
  ∀ s : State, s.pending = some .decode →
    ∃ (n : Nat) (u : State), transitions n s.clearCall = .next u ∧
      complete s = .next { u with busy := false, pending := none } ∧
      ((n = 1 ∧ u.phase = .violation) ∨ (n = 3 ∧ u.phase = .parityFailure) ∨ (n = 4 ∧ u.phase = .extracted))

/-- R135, R138, R11: what a DECODE leaves in the call's elements depends on CAP and POL alone, on nothing an earlier call
left; every other element stays. -/
def Obligations.DecodeDependsOnCaptureAlone : Prop :=
  ∀ s s' : State, s.pending = some .decode → s'.pending = some .decode → s'.cap = s.cap → s'.pol = s.pol →
    ∃ t, complete s = .next t ∧
      complete s' = .next { t with
        cmderr := s'.cmderr, cmdcause := s'.cmdcause, events := s'.events, reads := s'.reads, draws := s'.draws,
        busyTxns := s'.busyTxns }

/-- R251, R257 items 1 and 2: a DECODE of a capture with a violation ends in VIOLATION at the lowest violating byte, before
any parity is looked at, with every buffer and the Reading at 0. -/
def Obligations.DecodeOfViolatingCapture : Prop :=
  ∀ (s : State) (k : Fin 20), s.pending = some .decode → byteViolates s.cap[k] = true →
    (∀ j : Fin 20, j < k → byteViolates s.cap[j] = false) →
    complete s = .next { s.clearCall with
      consumed := BitVec.ofNat 8 k.val, errkind := .manchester, erridx := BitVec.ofNat 8 k.val, phase := .violation,
      busy := false, pending := none }

/-- R13, R87, R135, R183, R222, R234 (the source's end-to-end property, for every frame): a DECODE of the capture of any
dewhitened bytes, whitened and framed with passing parity, gives those bytes back and their Reading. -/
def Obligations.DecodeOfTransmittedFrame : Prop :=
  ∀ (s : State) (dew : Vector Byte 9) (par8 : Bit), s.pending = some .decode →
    s.cap = captureOfPacket (whitened dew) (parityFor (whitened dew) par8) → s.pol = polarityOfPacket (whitened dew) →
    ∃ t, complete s = .next t ∧ t.phase = .extracted ∧ t.busy = false ∧ t.pending = none ∧
      t.errkind = .none ∧ t.erridx = 0x00#8 ∧ t.consumed = 20#8 ∧
      t.pkt = whitened dew ∧ t.par = parityFor (whitened dew) par8 ∧ t.dew = dew ∧
      t.serial = dew[4] ∧ t.humidity = dew[7] ∧ t.temp = (dew[5] &&& 0x7F#8) ++ dew[6] ∧
      t.tint = BitVec.ofInt 16 (t.temp.toInt.tdiv 10) ∧ t.tfrac = BitVec.ofInt 8 (t.temp.toInt.tmod 10) ∧
      t.cap = s.cap ∧ t.pol = s.pol ∧ t.cmderr = s.cmderr ∧ t.cmdcause = s.cmdcause

/-- R13, R211, R252: a DECODE of a framed packet whose parity first fails at byte i ends in PARITY_FAILURE with index i, the
packet and its parity bits kept, and no dewhitened byte and no Reading. -/
def Obligations.DecodeOfFrameWithBadParity : Prop :=
  ∀ (s : State) (pkt : Vector Byte 9) (par : Vector Bit 9) (i : Fin 8), s.pending = some .decode →
    s.cap = captureOfPacket pkt par → s.pol = polarityOfPacket pkt →
    parity8 pkt[i.val] ≠ par[i.val] → (∀ j : Fin 8, j < i → parity8 pkt[j.val] = par[j.val]) →
    ∃ t, complete s = .next t ∧ t.phase = .parityFailure ∧ t.errkind = .parity ∧ t.erridx = BitVec.ofNat 8 i.val ∧
      t.consumed = 20#8 ∧ t.pkt = pkt ∧ t.par = par ∧ t.noDew ∧ t.noReading

/-! ### Invariants -/

/-- R45, R46: the reset state is consistent. -/
def Obligations.ResetIsConsistent : Prop := State.Consistent State.reset

/-- R23, R24, R31, R32, R33, R46, R140, R182, R253: every step keeps the machine consistent, from every consistent state. -/
def Obligations.StepKeepsConsistency : Prop :=
  ∀ s t : State, s.Consistent → step s = .next t → t.Consistent

/-- R140, R250: from a consistent state no step faults; it refuses only a word that spells no transaction. -/
def Obligations.ConsistentStateNeverFaults : Prop :=
  ∀ s : State, s.Consistent → safeOutcome (step s) ∧ (s.wordsDecode → ∃ t, step s = .next t)

/-- R23, R30, R31, R33, R34, R37, R38, R46, R233, R253: what a host can rely on in every consistent state. -/
def Obligations.ConsistentStateReadings : Prop :=
  ∀ s : State, s.Consistent →
    s.phase ≠ .lineDecoding ∧ s.phase ≠ .validating ∧ ¬ (s.validFlag = true ∧ s.errFlag = true) ∧
    (s.errkind = .manchester ↔ s.phase = .violation) ∧ (s.errkind = .parity ↔ s.phase = .parityFailure) ∧
    (s.errkind = .none → s.erridx = 0x00#8) ∧ s.consumed.toNat ≤ 20 ∧
    (s.phase ≠ .extracted → s.noReading) ∧
    (s.phase = .idle → s.erridx = 0x00#8 ∧ s.consumed = 0x00#8 ∧ s.dbuf = Vector.replicate 11 0x00#8 ∧
      s.noPacket ∧ s.noDew) ∧
    s.temp.msb = false ∧ s.tint.toNat ≤ 3276 ∧ s.tfrac.toNat ≤ 9 ∧ s.temp.toNat = 10 * s.tint.toNat + s.tfrac.toNat

/-! ### The schedule (00_scope.md R7, 41_commands.md R132, 70_reset_and_hazards.md R291) -/

/-- R132, R291: every step of a core with any T_CMD is a step of the untimed core under some schedule: the same events, or
the same with a completion put before them. Events and the count of transactions are the model's (log entries 1, 4). -/
def Obligations.TimedStepIsUntimedStep : Prop :=
  ∀ (tCmd : Nat) (s : State),
    stepTimed tCmd s = step s ∨ (s.busy = true ∧ stepTimed tCmd s = step { s with events := .completion :: s.events })

/-- R132: with T_CMD given, a command stays busy for at most T_CMD transactions: no step leaves a command waiting longer. The
count of transactions is the model's (log entry 4). -/
def Obligations.TimedStepKeepsBound : Prop :=
  ∀ (tCmd : Nat) (s t : State), s.withinTCmd tCmd → stepTimed tCmd s = .next t → t.withinTCmd tCmd

/-- R132, R280, R291: BUSY falls within one step more than there are events, by completion or by reset; and where no reset is
to come, by the completion of PENDING: its effect is performed on the busy state itself, but for CMDERR, CMDCAUSE
and the model's port fields, which transactions in between may have changed (log entries 1 to 4). -/
def Obligations.CommandEventuallyCompletes : Prop :=
  ∀ s : State, s.Consistent → s.busy = true → s.wordsDecode →
    (∃ (n : Nat) (t : State), n ≤ s.events.length + 1 ∧ Host.Core.run Sys2Proof.core n s = .next t ∧ t.busy = false) ∧
    (Event.rst ∉ s.events →
      ∃ (n : Nat) (t : State), n ≤ s.events.length + 1 ∧ Host.Core.run Sys2Proof.core n s = .next t ∧ t.busy = false ∧
        complete { s with
          cmderr := t.cmderr, cmdcause := t.cmdcause, events := t.events, reads := t.reads, draws := t.draws,
          busyTxns := t.busyTxns } = .next t)
end

