-- ==== Sys2Proof/Laws/Decode.lean ====
section
/-! SUPPORT. The fields of a transaction word put together, and the word of its own fields (30_encoding.md R80). -/

namespace Sys2Proof

/-- The bits of a transaction word: DATA below bit 8, OFF from bit 8, WE in bit 15. -/
theorem getLsbD_txnWord (we : Bit) (off : Offset) (v : Byte) (i : Nat) :
    (txnWord we off v).getLsbD i =
      if i < 8 then v.getLsbD i else if i - 8 < 7 then off.getLsbD (i - 8) else we.getLsbD (i - 8 - 7) := by
  simp only [txnWord, BitVec.getLsbD_append]

@[simp] theorem fieldWE_txnWord (we : Bit) (off : Offset) (v : Byte) : fieldWE (txnWord we off v) = we := by
  apply BitVec.eq_of_getLsbD_eq
  intro i hi
  obtain rfl : i = 0 := by omega
  simp only [fieldWE, BitVec.getLsbD_extractLsb', getLsbD_txnWord]
  simp

@[simp] theorem fieldOFF_txnWord (we : Bit) (off : Offset) (v : Byte) : fieldOFF (txnWord we off v) = off := by
  apply BitVec.eq_of_getLsbD_eq
  intro i hi
  simp [fieldOFF, getLsbD_txnWord, hi]

@[simp] theorem fieldDATA_txnWord (we : Bit) (off : Offset) (v : Byte) : fieldDATA (txnWord we off v) = v := by
  apply BitVec.eq_of_getLsbD_eq
  intro i hi
  simp [fieldDATA, getLsbD_txnWord, hi]

/-- A word is the word of its three fields. -/
theorem txnWord_fields (w : TxnWord) : txnWord (fieldWE w) (fieldOFF w) (fieldDATA w) = w := by
  apply BitVec.eq_of_getLsbD_eq
  intro i hi
  simp only [txnWord, fieldWE, fieldOFF, fieldDATA, BitVec.getLsbD_append, BitVec.getLsbD_extractLsb']
  by_cases h8 : i < 8
  · simp [h8]
  · by_cases h15 : i - 8 < 7
    · simp [h8, h15, show 8 + (i - 8) = i by omega]
    · simp [h8, h15, show 15 + (i - 8 - 7) = i by omega, show i - 8 - 7 < 1 by omega]

/-- A word with WE = 1 and OFF = CMD is a command. -/
theorem decode_command (v : Byte) : decode (txnWord 1#1 cmdOffset v) = .instr (decodeCommand v) := by
  simp [decode]

/-- A word with WE = 1 and another offset is a register write. -/
theorem decode_write (off : Offset) (v : Byte) (h : off ≠ cmdOffset) :
    decode (txnWord 1#1 off v) = .instr (.wr off v) := by
  simp [decode, h]

/-- A word with WE = 0 and DATA = 0 is a register read. -/
theorem decode_read (off : Offset) : decode (txnWord 0#1 off 0x00#8) = .instr (.rd off) := by
  simp [decode]

/-- A word with WE = 0 and DATA ≠ 0 spells no transaction. -/
theorem decode_readWithData (off : Offset) (v : Byte) (h : v ≠ 0x00#8) :
    decode (txnWord 0#1 off v) = .notATransaction (txnWord 0#1 off v) := by
  simp [decode, h]

/-- A byte of 4 or more is a reserved command. -/
theorem decodeCommand_reserved (v : Byte) (h : 4 ≤ v.toNat) : decodeCommand v = .reservedCmd v := by
  have h0 : v ≠ 0x00#8 := by rintro rfl; simp at h
  have h1 : v ≠ 0x01#8 := by rintro rfl; simp at h
  have h2 : v ≠ 0x02#8 := by rintro rfl; simp at h
  have h3 : v ≠ 0x03#8 := by rintro rfl; simp at h
  simp [decodeCommand, h0, h1, h2, h3]

end Sys2Proof
end

