-- ==== Sys2Proof/Machine/HostProgram.lean ====
section
/-! DEFINITION. Host programs: the assembler syntax (30_encoding.md R91), the pseudo-instructions and their expansions (R92), and
presenting a program's words at the port. The core sees only the words.
How the text is parted into words is a DESIGN CHOICE, safe: log entry 15. -/

namespace Sys2Proof.Machine

/-- One line of a host program (R91, R92). -/
inductive Line where
  /-- `RD <reg>`, with the name of `-> name` if there is one. -/
  | rd (off : Offset) (name : Option (List Char))
  /-- `WR <reg>, <byte>`. -/
  | wr (off : Offset) (v : Byte)
  /-- `CMD <mnemonic>`: the opcode of R84. -/
  | cmd (opcode : Byte)
  /-- `WAIT`: host-side control flow around RD STATUS. -/
  | wait
  /-- `LOADCAP b0, ..., b19`. -/
  | loadcap (bytes : List Byte)
  /-- `SETPOL p`. -/
  | setpol (p : Bit)
  /-- `RUN`. -/
  | run
  /-- `RDTEMP -> t`. -/
  | rdtemp (name : List Char)
deriving DecidableEq, Repr

/-! ### Reading the text -/

/-- The line without its `; comment` (R91). -/
def stripComment : List Char → List Char
  | [] => []
  | c :: cs => if c = ';' then [] else c :: stripComment cs

/-- A finished word, if it has a character. -/
def flushWord (w : List Char) : List (List Char) := if w.isEmpty then [] else [w]

/-- The words of a line: spaces part them, a comma is a word of its own. -/
def wordsFrom (w : List Char) : List Char → List (List Char)
  | [] => flushWord w
  | c :: cs =>
    if c = ' ' then flushWord w ++ wordsFrom [] cs
    else if c = ',' then flushWord w ++ [c] :: wordsFrom [] cs
    else wordsFrom (w ++ [c]) cs

/-- A digit in a base of at most 16. -/
def digitOf (base : Nat) (c : Char) : Option Nat :=
  let n := c.toNat
  let v := if 48 ≤ n ∧ n ≤ 57 then n - 48
    else if 65 ≤ n ∧ n ≤ 70 then n - 55
    else if 97 ≤ n ∧ n ≤ 102 then n - 87
    else 16
  if v < base then some v else none

/-- The number some digits spell, going on from `acc`. -/
def numberFrom (base acc : Nat) : List Char → Option Nat
  | [] => some acc
  | c :: cs =>
    match digitOf base c with
    | some d => numberFrom base (base * acc + d) cs
    | none => none

/-- A number below a bound, of at least one digit. -/
def numberBelow (base bound : Nat) (cs : List Char) : Option Nat :=
  match cs with
  | [] => none
  | _ =>
    match numberFrom base 0 cs with
    | some n => if n < bound then some n else none
    | none => none

/-- `<byte>`: `0xNN`, a decimal number 0..255, or `0bNNNNNNNN` (R91). -/
def byteOfText : List Char → Option Byte
  | '0' :: 'x' :: ds => if ds.length = 2 then (numberBelow 16 256 ds).map (BitVec.ofNat 8) else none
  | '0' :: 'b' :: ds => if ds.length = 8 then (numberBelow 2 256 ds).map (BitVec.ofNat 8) else none
  | ds => (numberBelow 10 256 ds).map (BitVec.ofNat 8)

/-- The registers whose names carry no index (R26, R91). -/
def plainNames : List (String × Reg) :=
  [("CTRL", .ctrl), ("CMD", .cmd), ("STATUS", .status), ("ERRINFO", .errinfo), ("ERRIDX", .erridx),
   ("CONSUMED", .consumed), ("SERIAL", .serial), ("HUMIDITY", .humidity), ("TEMP_L", .tempL), ("TEMP_H", .tempH)] ++
  [("TINT_L", .tintL), ("TINT_H", .tintH), ("TFRAC", .tfrac), ("PAR_L", .parL), ("PAR_H", .parH)]

/-- The register banks: name, first offset, number of registers (R26, R91). -/
def bankNames : List (String × Nat × Nat) := [("CAP", 0x00, 20), ("DBUF", 0x30, 11), ("PKT", 0x40, 9), ("DEW", 0x50, 9)]

/-- The index of a name in a bank: its prefix, then a decimal index without a leading zero. -/
def bankOffset (cs : List Char) (bank : String × Nat × Nat) : Option Offset :=
  let pre := bank.1.toList
  let ds := cs.drop pre.length
  if cs.take pre.length = pre ∧ (ds.length = 1 ∨ ds.head? ≠ some '0') then
    (numberBelow 10 bank.2.2 ds).map fun i => BitVec.ofNat 7 (bank.2.1 + i)
  else none

/-- `<reg>`: a register's name, or an offset written `@0xNN` (R91). -/
def offsetOfText (cs : List Char) : Option Offset :=
  match cs with
  | '@' :: '0' :: 'x' :: ds => if ds.length = 2 then (numberBelow 16 128 ds).map (BitVec.ofNat 7) else none
  | _ =>
    match plainNames.find? (fun p => p.1.toList == cs) with
    | some p => some p.2.offset
    | none => bankNames.findSome? (bankOffset cs)

/-- The opcode of a command mnemonic (R84). -/
def opcodeOfText (cs : List Char) : Option Byte :=
  if cs = "NOP".toList then some 0x00#8
  else if cs = "DECODE".toList then some 0x01#8
  else if cs = "STEP".toList then some 0x02#8
  else if cs = "CLEAR".toList then some 0x03#8
  else none

/-- Bytes parted by commas. -/
def byteList : List (List Char) → Option (List Byte)
  | [] => none
  | [w] => (byteOfText w).map fun b => [b]
  | w :: c :: ws =>
    if c = [','] then
      match byteOfText w, byteList ws with
      | some b, some bs => some (b :: bs)
      | _, _ => none
    else none

/-- The line some words spell (R91, R92). -/
def lineOfWords (ws : List (List Char)) : Option Line :=
  match ws with
  | [] => none
  | op :: args =>
    if op = "RD".toList then
      match args with
      | [r] => (offsetOfText r).map fun o => .rd o none
      | [r, arrow, name] => if arrow = "->".toList then (offsetOfText r).map fun o => .rd o (some name) else none
      | _ => none
    else if op = "WR".toList then
      match args with
      | [r, c, v] =>
        if c = [','] then
          match offsetOfText r, byteOfText v with
          | some o, some b => some (.wr o b)
          | _, _ => none
        else none
      | _ => none
    else if op = "CMD".toList then
      match args with
      | [m] => (opcodeOfText m).map .cmd
      | _ => none
    else if op = "WAIT".toList then if args.isEmpty then some .wait else none
    else if op = "RUN".toList then if args.isEmpty then some .run else none
    else if op = "LOADCAP".toList then
      match byteList args with
      | some bs => if bs.length = 20 then some (.loadcap bs) else none
      | none => none
    else if op = "SETPOL".toList then
      if args = ["0".toList] then some (.setpol 0#1)
      else if args = ["1".toList] then some (.setpol 1#1)
      else none
    else if op = "RDTEMP".toList then
      match args with
      | [arrow, name] => if arrow = "->".toList then some (.rdtemp name) else none
      | _ => none
    else none

/-- One line of text (R91). -/
def lineOfText (text : String) : Option Line := lineOfWords (wordsFrom [] (stripComment text.toList))

/-! ### Expanding -/

/-- `WR CAP<k>, b` for each byte from index `k` up. -/
def loadFrom (k : Nat) : List Byte → List TxnWord
  | [] => []
  | b :: bs => txnWord 1#1 (BitVec.ofNat 7 k) b :: loadFrom (k + 1) bs

/-- `WAIT`: the core sees only the RD STATUS words, one per turn of the host's loop (R92). -/
def waitWords (polls : Nat) : List TxnWord := List.replicate polls (txnWord 0#1 statusOffset 0x00#8)

/-- The host's loop goes on while STATUS bit 4 reads 1 (R92). -/
def waitGoesOn (status : Byte) : Bool := bitAt status 4 == 1#1

/-- The words of a line, where each WAIT makes the given number of polls (R91, R92). -/
def Line.words (polls : Nat) : Line → List TxnWord
  | .rd off _ => [txnWord 0#1 off 0x00#8]
  | .wr off v => [txnWord 1#1 off v]
  | .cmd opcode => [txnWord 1#1 cmdOffset opcode]
  | .wait => waitWords polls
  | .loadcap bytes => loadFrom 0 bytes
  | .setpol p => [txnWord 1#1 0x14#7 (p.setWidth 8)]
  | .run => txnWord 1#1 cmdOffset 0x01#8 :: waitWords polls
  | .rdtemp _ => [txnWord 0#1 0x1C#7 0x00#8, txnWord 0#1 0x1D#7 0x00#8]

/-- The value RDTEMP gives its name: `s16(hi ++ lo)` (R92). -/
def rdtempValue (lo hi : Byte) : Int := s16 (hi ++ lo)

/-- `s` with the words of a program still to be presented, in order, after everything that is to come already. -/
def State.presentAll (ws : List TxnWord) (s : State) : State := { s with events := s.events ++ ws.map .txn }

end Sys2Proof.Machine
end

