-- ==== Sys2Proof/Laws/State.lean ====
section
/-! SUPPORT. One lemma per field per update: what each named operation leaves in each field of the state. -/

namespace Sys2Proof.Machine

variable (s : State)

/-! ### State.setPhase -/

@[simp] theorem State.setPhase_cap (p : Phase) : (s.setPhase p).cap = s.cap := rfl
@[simp] theorem State.setPhase_pol (p : Phase) : (s.setPhase p).pol = s.pol := rfl
@[simp] theorem State.setPhase_phase (p : Phase) : (s.setPhase p).phase = p := rfl
@[simp] theorem State.setPhase_busy (p : Phase) : (s.setPhase p).busy = s.busy := rfl
@[simp] theorem State.setPhase_pending (p : Phase) : (s.setPhase p).pending = s.pending := rfl
@[simp] theorem State.setPhase_cmderr (p : Phase) : (s.setPhase p).cmderr = s.cmderr := rfl
@[simp] theorem State.setPhase_cmdcause (p : Phase) : (s.setPhase p).cmdcause = s.cmdcause := rfl
@[simp] theorem State.setPhase_errkind (p : Phase) : (s.setPhase p).errkind = s.errkind := rfl
@[simp] theorem State.setPhase_erridx (p : Phase) : (s.setPhase p).erridx = s.erridx := rfl
@[simp] theorem State.setPhase_consumed (p : Phase) : (s.setPhase p).consumed = s.consumed := rfl
@[simp] theorem State.setPhase_dbuf (p : Phase) : (s.setPhase p).dbuf = s.dbuf := rfl
@[simp] theorem State.setPhase_pkt (p : Phase) : (s.setPhase p).pkt = s.pkt := rfl
@[simp] theorem State.setPhase_par (p : Phase) : (s.setPhase p).par = s.par := rfl
@[simp] theorem State.setPhase_dew (p : Phase) : (s.setPhase p).dew = s.dew := rfl
@[simp] theorem State.setPhase_serial (p : Phase) : (s.setPhase p).serial = s.serial := rfl
@[simp] theorem State.setPhase_humidity (p : Phase) : (s.setPhase p).humidity = s.humidity := rfl
@[simp] theorem State.setPhase_temp (p : Phase) : (s.setPhase p).temp = s.temp := rfl
@[simp] theorem State.setPhase_tint (p : Phase) : (s.setPhase p).tint = s.tint := rfl
@[simp] theorem State.setPhase_tfrac (p : Phase) : (s.setPhase p).tfrac = s.tfrac := rfl
@[simp] theorem State.setPhase_events (p : Phase) : (s.setPhase p).events = s.events := rfl
@[simp] theorem State.setPhase_reads (p : Phase) : (s.setPhase p).reads = s.reads := rfl
@[simp] theorem State.setPhase_draws (p : Phase) : (s.setPhase p).draws = s.draws := rfl
@[simp] theorem State.setPhase_busyTxns (p : Phase) : (s.setPhase p).busyTxns = s.busyTxns := rfl

/-! ### State.hostRead -/

@[simp] theorem State.hostRead_cap (off : Offset) : (s.hostRead off).cap = s.cap := rfl
@[simp] theorem State.hostRead_pol (off : Offset) : (s.hostRead off).pol = s.pol := rfl
@[simp] theorem State.hostRead_phase (off : Offset) : (s.hostRead off).phase = s.phase := rfl
@[simp] theorem State.hostRead_busy (off : Offset) : (s.hostRead off).busy = s.busy := rfl
@[simp] theorem State.hostRead_pending (off : Offset) : (s.hostRead off).pending = s.pending := rfl
@[simp] theorem State.hostRead_cmderr (off : Offset) : (s.hostRead off).cmderr = s.cmderr := rfl
@[simp] theorem State.hostRead_cmdcause (off : Offset) : (s.hostRead off).cmdcause = s.cmdcause := rfl
@[simp] theorem State.hostRead_errkind (off : Offset) : (s.hostRead off).errkind = s.errkind := rfl
@[simp] theorem State.hostRead_erridx (off : Offset) : (s.hostRead off).erridx = s.erridx := rfl
@[simp] theorem State.hostRead_consumed (off : Offset) : (s.hostRead off).consumed = s.consumed := rfl
@[simp] theorem State.hostRead_dbuf (off : Offset) : (s.hostRead off).dbuf = s.dbuf := rfl
@[simp] theorem State.hostRead_pkt (off : Offset) : (s.hostRead off).pkt = s.pkt := rfl
@[simp] theorem State.hostRead_par (off : Offset) : (s.hostRead off).par = s.par := rfl
@[simp] theorem State.hostRead_dew (off : Offset) : (s.hostRead off).dew = s.dew := rfl
@[simp] theorem State.hostRead_serial (off : Offset) : (s.hostRead off).serial = s.serial := rfl
@[simp] theorem State.hostRead_humidity (off : Offset) : (s.hostRead off).humidity = s.humidity := rfl
@[simp] theorem State.hostRead_temp (off : Offset) : (s.hostRead off).temp = s.temp := rfl
@[simp] theorem State.hostRead_tint (off : Offset) : (s.hostRead off).tint = s.tint := rfl
@[simp] theorem State.hostRead_tfrac (off : Offset) : (s.hostRead off).tfrac = s.tfrac := rfl
@[simp] theorem State.hostRead_events (off : Offset) : (s.hostRead off).events = s.events := rfl
@[simp] theorem State.hostRead_reads (off : Offset) : (s.hostRead off).reads = s.readByte off :: s.reads := rfl
@[simp] theorem State.hostRead_draws (off : Offset) : (s.hostRead off).draws = if s.busy && readsAsDraw off then s.draws + 1 else s.draws := rfl
@[simp] theorem State.hostRead_busyTxns (off : Offset) : (s.hostRead off).busyTxns = s.busyTxns := rfl

/-! ### State.setCap -/

@[simp] theorem State.setCap_cap (i : Fin 20) (v : Byte) : (s.setCap i v).cap = s.cap.set i v := rfl
@[simp] theorem State.setCap_pol (i : Fin 20) (v : Byte) : (s.setCap i v).pol = s.pol := rfl
@[simp] theorem State.setCap_phase (i : Fin 20) (v : Byte) : (s.setCap i v).phase = s.phase := rfl
@[simp] theorem State.setCap_busy (i : Fin 20) (v : Byte) : (s.setCap i v).busy = s.busy := rfl
@[simp] theorem State.setCap_pending (i : Fin 20) (v : Byte) : (s.setCap i v).pending = s.pending := rfl
@[simp] theorem State.setCap_cmderr (i : Fin 20) (v : Byte) : (s.setCap i v).cmderr = s.cmderr := rfl
@[simp] theorem State.setCap_cmdcause (i : Fin 20) (v : Byte) : (s.setCap i v).cmdcause = s.cmdcause := rfl
@[simp] theorem State.setCap_errkind (i : Fin 20) (v : Byte) : (s.setCap i v).errkind = s.errkind := rfl
@[simp] theorem State.setCap_erridx (i : Fin 20) (v : Byte) : (s.setCap i v).erridx = s.erridx := rfl
@[simp] theorem State.setCap_consumed (i : Fin 20) (v : Byte) : (s.setCap i v).consumed = s.consumed := rfl
@[simp] theorem State.setCap_dbuf (i : Fin 20) (v : Byte) : (s.setCap i v).dbuf = s.dbuf := rfl
@[simp] theorem State.setCap_pkt (i : Fin 20) (v : Byte) : (s.setCap i v).pkt = s.pkt := rfl
@[simp] theorem State.setCap_par (i : Fin 20) (v : Byte) : (s.setCap i v).par = s.par := rfl
@[simp] theorem State.setCap_dew (i : Fin 20) (v : Byte) : (s.setCap i v).dew = s.dew := rfl
@[simp] theorem State.setCap_serial (i : Fin 20) (v : Byte) : (s.setCap i v).serial = s.serial := rfl
@[simp] theorem State.setCap_humidity (i : Fin 20) (v : Byte) : (s.setCap i v).humidity = s.humidity := rfl
@[simp] theorem State.setCap_temp (i : Fin 20) (v : Byte) : (s.setCap i v).temp = s.temp := rfl
@[simp] theorem State.setCap_tint (i : Fin 20) (v : Byte) : (s.setCap i v).tint = s.tint := rfl
@[simp] theorem State.setCap_tfrac (i : Fin 20) (v : Byte) : (s.setCap i v).tfrac = s.tfrac := rfl
@[simp] theorem State.setCap_events (i : Fin 20) (v : Byte) : (s.setCap i v).events = s.events := rfl
@[simp] theorem State.setCap_reads (i : Fin 20) (v : Byte) : (s.setCap i v).reads = s.reads := rfl
@[simp] theorem State.setCap_draws (i : Fin 20) (v : Byte) : (s.setCap i v).draws = s.draws := rfl
@[simp] theorem State.setCap_busyTxns (i : Fin 20) (v : Byte) : (s.setCap i v).busyTxns = s.busyTxns := rfl

/-! ### State.setCtrl -/

@[simp] theorem State.setCtrl_cap (v : Byte) : (s.setCtrl v).cap = s.cap := rfl
@[simp] theorem State.setCtrl_pol (v : Byte) : (s.setCtrl v).pol = bitAt v 0 := rfl
@[simp] theorem State.setCtrl_phase (v : Byte) : (s.setCtrl v).phase = s.phase := rfl
@[simp] theorem State.setCtrl_busy (v : Byte) : (s.setCtrl v).busy = s.busy := rfl
@[simp] theorem State.setCtrl_pending (v : Byte) : (s.setCtrl v).pending = s.pending := rfl
@[simp] theorem State.setCtrl_cmderr (v : Byte) : (s.setCtrl v).cmderr = s.cmderr := rfl
@[simp] theorem State.setCtrl_cmdcause (v : Byte) : (s.setCtrl v).cmdcause = s.cmdcause := rfl
@[simp] theorem State.setCtrl_errkind (v : Byte) : (s.setCtrl v).errkind = s.errkind := rfl
@[simp] theorem State.setCtrl_erridx (v : Byte) : (s.setCtrl v).erridx = s.erridx := rfl
@[simp] theorem State.setCtrl_consumed (v : Byte) : (s.setCtrl v).consumed = s.consumed := rfl
@[simp] theorem State.setCtrl_dbuf (v : Byte) : (s.setCtrl v).dbuf = s.dbuf := rfl
@[simp] theorem State.setCtrl_pkt (v : Byte) : (s.setCtrl v).pkt = s.pkt := rfl
@[simp] theorem State.setCtrl_par (v : Byte) : (s.setCtrl v).par = s.par := rfl
@[simp] theorem State.setCtrl_dew (v : Byte) : (s.setCtrl v).dew = s.dew := rfl
@[simp] theorem State.setCtrl_serial (v : Byte) : (s.setCtrl v).serial = s.serial := rfl
@[simp] theorem State.setCtrl_humidity (v : Byte) : (s.setCtrl v).humidity = s.humidity := rfl
@[simp] theorem State.setCtrl_temp (v : Byte) : (s.setCtrl v).temp = s.temp := rfl
@[simp] theorem State.setCtrl_tint (v : Byte) : (s.setCtrl v).tint = s.tint := rfl
@[simp] theorem State.setCtrl_tfrac (v : Byte) : (s.setCtrl v).tfrac = s.tfrac := rfl
@[simp] theorem State.setCtrl_events (v : Byte) : (s.setCtrl v).events = s.events := rfl
@[simp] theorem State.setCtrl_reads (v : Byte) : (s.setCtrl v).reads = s.reads := rfl
@[simp] theorem State.setCtrl_draws (v : Byte) : (s.setCtrl v).draws = s.draws := rfl
@[simp] theorem State.setCtrl_busyTxns (v : Byte) : (s.setCtrl v).busyTxns = s.busyTxns := rfl

/-! ### State.raiseCommandError -/

@[simp] theorem State.raiseCommandError_cap (c : CmdCause) : (s.raiseCommandError c).cap = s.cap := rfl
@[simp] theorem State.raiseCommandError_pol (c : CmdCause) : (s.raiseCommandError c).pol = s.pol := rfl
@[simp] theorem State.raiseCommandError_phase (c : CmdCause) : (s.raiseCommandError c).phase = s.phase := rfl
@[simp] theorem State.raiseCommandError_busy (c : CmdCause) : (s.raiseCommandError c).busy = s.busy := rfl
@[simp] theorem State.raiseCommandError_pending (c : CmdCause) : (s.raiseCommandError c).pending = s.pending := rfl
@[simp] theorem State.raiseCommandError_cmderr (c : CmdCause) : (s.raiseCommandError c).cmderr = true := rfl
@[simp] theorem State.raiseCommandError_cmdcause (c : CmdCause) : (s.raiseCommandError c).cmdcause = if s.cmderr then s.cmdcause else c := rfl
@[simp] theorem State.raiseCommandError_errkind (c : CmdCause) : (s.raiseCommandError c).errkind = s.errkind := rfl
@[simp] theorem State.raiseCommandError_erridx (c : CmdCause) : (s.raiseCommandError c).erridx = s.erridx := rfl
@[simp] theorem State.raiseCommandError_consumed (c : CmdCause) : (s.raiseCommandError c).consumed = s.consumed := rfl
@[simp] theorem State.raiseCommandError_dbuf (c : CmdCause) : (s.raiseCommandError c).dbuf = s.dbuf := rfl
@[simp] theorem State.raiseCommandError_pkt (c : CmdCause) : (s.raiseCommandError c).pkt = s.pkt := rfl
@[simp] theorem State.raiseCommandError_par (c : CmdCause) : (s.raiseCommandError c).par = s.par := rfl
@[simp] theorem State.raiseCommandError_dew (c : CmdCause) : (s.raiseCommandError c).dew = s.dew := rfl
@[simp] theorem State.raiseCommandError_serial (c : CmdCause) : (s.raiseCommandError c).serial = s.serial := rfl
@[simp] theorem State.raiseCommandError_humidity (c : CmdCause) : (s.raiseCommandError c).humidity = s.humidity := rfl
@[simp] theorem State.raiseCommandError_temp (c : CmdCause) : (s.raiseCommandError c).temp = s.temp := rfl
@[simp] theorem State.raiseCommandError_tint (c : CmdCause) : (s.raiseCommandError c).tint = s.tint := rfl
@[simp] theorem State.raiseCommandError_tfrac (c : CmdCause) : (s.raiseCommandError c).tfrac = s.tfrac := rfl
@[simp] theorem State.raiseCommandError_events (c : CmdCause) : (s.raiseCommandError c).events = s.events := rfl
@[simp] theorem State.raiseCommandError_reads (c : CmdCause) : (s.raiseCommandError c).reads = s.reads := rfl
@[simp] theorem State.raiseCommandError_draws (c : CmdCause) : (s.raiseCommandError c).draws = s.draws := rfl
@[simp] theorem State.raiseCommandError_busyTxns (c : CmdCause) : (s.raiseCommandError c).busyTxns = s.busyTxns := rfl

/-! ### State.raiseManchester -/

@[simp] theorem State.raiseManchester_cap (k : Byte) : (s.raiseManchester k).cap = s.cap := rfl
@[simp] theorem State.raiseManchester_pol (k : Byte) : (s.raiseManchester k).pol = s.pol := rfl
@[simp] theorem State.raiseManchester_phase (k : Byte) : (s.raiseManchester k).phase = .violation := rfl
@[simp] theorem State.raiseManchester_busy (k : Byte) : (s.raiseManchester k).busy = s.busy := rfl
@[simp] theorem State.raiseManchester_pending (k : Byte) : (s.raiseManchester k).pending = s.pending := rfl
@[simp] theorem State.raiseManchester_cmderr (k : Byte) : (s.raiseManchester k).cmderr = s.cmderr := rfl
@[simp] theorem State.raiseManchester_cmdcause (k : Byte) : (s.raiseManchester k).cmdcause = s.cmdcause := rfl
@[simp] theorem State.raiseManchester_errkind (k : Byte) : (s.raiseManchester k).errkind = .manchester := rfl
@[simp] theorem State.raiseManchester_erridx (k : Byte) : (s.raiseManchester k).erridx = k := rfl
@[simp] theorem State.raiseManchester_consumed (k : Byte) : (s.raiseManchester k).consumed = s.consumed := rfl
@[simp] theorem State.raiseManchester_dbuf (k : Byte) : (s.raiseManchester k).dbuf = s.dbuf := rfl
@[simp] theorem State.raiseManchester_pkt (k : Byte) : (s.raiseManchester k).pkt = s.pkt := rfl
@[simp] theorem State.raiseManchester_par (k : Byte) : (s.raiseManchester k).par = s.par := rfl
@[simp] theorem State.raiseManchester_dew (k : Byte) : (s.raiseManchester k).dew = s.dew := rfl
@[simp] theorem State.raiseManchester_serial (k : Byte) : (s.raiseManchester k).serial = s.serial := rfl
@[simp] theorem State.raiseManchester_humidity (k : Byte) : (s.raiseManchester k).humidity = s.humidity := rfl
@[simp] theorem State.raiseManchester_temp (k : Byte) : (s.raiseManchester k).temp = s.temp := rfl
@[simp] theorem State.raiseManchester_tint (k : Byte) : (s.raiseManchester k).tint = s.tint := rfl
@[simp] theorem State.raiseManchester_tfrac (k : Byte) : (s.raiseManchester k).tfrac = s.tfrac := rfl
@[simp] theorem State.raiseManchester_events (k : Byte) : (s.raiseManchester k).events = s.events := rfl
@[simp] theorem State.raiseManchester_reads (k : Byte) : (s.raiseManchester k).reads = s.reads := rfl
@[simp] theorem State.raiseManchester_draws (k : Byte) : (s.raiseManchester k).draws = s.draws := rfl
@[simp] theorem State.raiseManchester_busyTxns (k : Byte) : (s.raiseManchester k).busyTxns = s.busyTxns := rfl

/-! ### State.raiseParity -/

@[simp] theorem State.raiseParity_cap (k : Byte) : (s.raiseParity k).cap = s.cap := rfl
@[simp] theorem State.raiseParity_pol (k : Byte) : (s.raiseParity k).pol = s.pol := rfl
@[simp] theorem State.raiseParity_phase (k : Byte) : (s.raiseParity k).phase = .parityFailure := rfl
@[simp] theorem State.raiseParity_busy (k : Byte) : (s.raiseParity k).busy = s.busy := rfl
@[simp] theorem State.raiseParity_pending (k : Byte) : (s.raiseParity k).pending = s.pending := rfl
@[simp] theorem State.raiseParity_cmderr (k : Byte) : (s.raiseParity k).cmderr = s.cmderr := rfl
@[simp] theorem State.raiseParity_cmdcause (k : Byte) : (s.raiseParity k).cmdcause = s.cmdcause := rfl
@[simp] theorem State.raiseParity_errkind (k : Byte) : (s.raiseParity k).errkind = .parity := rfl
@[simp] theorem State.raiseParity_erridx (k : Byte) : (s.raiseParity k).erridx = k := rfl
@[simp] theorem State.raiseParity_consumed (k : Byte) : (s.raiseParity k).consumed = s.consumed := rfl
@[simp] theorem State.raiseParity_dbuf (k : Byte) : (s.raiseParity k).dbuf = s.dbuf := rfl
@[simp] theorem State.raiseParity_pkt (k : Byte) : (s.raiseParity k).pkt = s.pkt := rfl
@[simp] theorem State.raiseParity_par (k : Byte) : (s.raiseParity k).par = s.par := rfl
@[simp] theorem State.raiseParity_dew (k : Byte) : (s.raiseParity k).dew = s.dew := rfl
@[simp] theorem State.raiseParity_serial (k : Byte) : (s.raiseParity k).serial = s.serial := rfl
@[simp] theorem State.raiseParity_humidity (k : Byte) : (s.raiseParity k).humidity = s.humidity := rfl
@[simp] theorem State.raiseParity_temp (k : Byte) : (s.raiseParity k).temp = s.temp := rfl
@[simp] theorem State.raiseParity_tint (k : Byte) : (s.raiseParity k).tint = s.tint := rfl
@[simp] theorem State.raiseParity_tfrac (k : Byte) : (s.raiseParity k).tfrac = s.tfrac := rfl
@[simp] theorem State.raiseParity_events (k : Byte) : (s.raiseParity k).events = s.events := rfl
@[simp] theorem State.raiseParity_reads (k : Byte) : (s.raiseParity k).reads = s.reads := rfl
@[simp] theorem State.raiseParity_draws (k : Byte) : (s.raiseParity k).draws = s.draws := rfl
@[simp] theorem State.raiseParity_busyTxns (k : Byte) : (s.raiseParity k).busyTxns = s.busyTxns := rfl

/-! ### State.clearCommandError -/

@[simp] theorem State.clearCommandError_cap : s.clearCommandError.cap = s.cap := rfl
@[simp] theorem State.clearCommandError_pol : s.clearCommandError.pol = s.pol := rfl
@[simp] theorem State.clearCommandError_phase : s.clearCommandError.phase = s.phase := rfl
@[simp] theorem State.clearCommandError_busy : s.clearCommandError.busy = s.busy := rfl
@[simp] theorem State.clearCommandError_pending : s.clearCommandError.pending = s.pending := rfl
@[simp] theorem State.clearCommandError_cmderr : s.clearCommandError.cmderr = false := rfl
@[simp] theorem State.clearCommandError_cmdcause : s.clearCommandError.cmdcause = .none := rfl
@[simp] theorem State.clearCommandError_errkind : s.clearCommandError.errkind = s.errkind := rfl
@[simp] theorem State.clearCommandError_erridx : s.clearCommandError.erridx = s.erridx := rfl
@[simp] theorem State.clearCommandError_consumed : s.clearCommandError.consumed = s.consumed := rfl
@[simp] theorem State.clearCommandError_dbuf : s.clearCommandError.dbuf = s.dbuf := rfl
@[simp] theorem State.clearCommandError_pkt : s.clearCommandError.pkt = s.pkt := rfl
@[simp] theorem State.clearCommandError_par : s.clearCommandError.par = s.par := rfl
@[simp] theorem State.clearCommandError_dew : s.clearCommandError.dew = s.dew := rfl
@[simp] theorem State.clearCommandError_serial : s.clearCommandError.serial = s.serial := rfl
@[simp] theorem State.clearCommandError_humidity : s.clearCommandError.humidity = s.humidity := rfl
@[simp] theorem State.clearCommandError_temp : s.clearCommandError.temp = s.temp := rfl
@[simp] theorem State.clearCommandError_tint : s.clearCommandError.tint = s.tint := rfl
@[simp] theorem State.clearCommandError_tfrac : s.clearCommandError.tfrac = s.tfrac := rfl
@[simp] theorem State.clearCommandError_events : s.clearCommandError.events = s.events := rfl
@[simp] theorem State.clearCommandError_reads : s.clearCommandError.reads = s.reads := rfl
@[simp] theorem State.clearCommandError_draws : s.clearCommandError.draws = s.draws := rfl
@[simp] theorem State.clearCommandError_busyTxns : s.clearCommandError.busyTxns = s.busyTxns := rfl

/-! ### State.clearCall -/

@[simp] theorem State.clearCall_cap : s.clearCall.cap = s.cap := rfl
@[simp] theorem State.clearCall_pol : s.clearCall.pol = s.pol := rfl
@[simp] theorem State.clearCall_phase : s.clearCall.phase = .idle := rfl
@[simp] theorem State.clearCall_busy : s.clearCall.busy = s.busy := rfl
@[simp] theorem State.clearCall_pending : s.clearCall.pending = s.pending := rfl
@[simp] theorem State.clearCall_cmderr : s.clearCall.cmderr = s.cmderr := rfl
@[simp] theorem State.clearCall_cmdcause : s.clearCall.cmdcause = s.cmdcause := rfl
@[simp] theorem State.clearCall_errkind : s.clearCall.errkind = .none := rfl
@[simp] theorem State.clearCall_erridx : s.clearCall.erridx = 0x00#8 := rfl
@[simp] theorem State.clearCall_consumed : s.clearCall.consumed = 0x00#8 := rfl
@[simp] theorem State.clearCall_dbuf : s.clearCall.dbuf = Vector.replicate 11 0x00#8 := rfl
@[simp] theorem State.clearCall_pkt : s.clearCall.pkt = Vector.replicate 9 0x00#8 := rfl
@[simp] theorem State.clearCall_par : s.clearCall.par = Vector.replicate 9 0#1 := rfl
@[simp] theorem State.clearCall_dew : s.clearCall.dew = Vector.replicate 9 0x00#8 := rfl
@[simp] theorem State.clearCall_serial : s.clearCall.serial = 0x00#8 := rfl
@[simp] theorem State.clearCall_humidity : s.clearCall.humidity = 0x00#8 := rfl
@[simp] theorem State.clearCall_temp : s.clearCall.temp = 0x0000#16 := rfl
@[simp] theorem State.clearCall_tint : s.clearCall.tint = 0x0000#16 := rfl
@[simp] theorem State.clearCall_tfrac : s.clearCall.tfrac = 0x00#8 := rfl
@[simp] theorem State.clearCall_events : s.clearCall.events = s.events := rfl
@[simp] theorem State.clearCall_reads : s.clearCall.reads = s.reads := rfl
@[simp] theorem State.clearCall_draws : s.clearCall.draws = s.draws := rfl
@[simp] theorem State.clearCall_busyTxns : s.clearCall.busyTxns = s.busyTxns := rfl

/-! ### State.accept -/

@[simp] theorem State.accept_cap (c : Command) : (s.accept c).cap = s.cap := rfl
@[simp] theorem State.accept_pol (c : Command) : (s.accept c).pol = s.pol := rfl
@[simp] theorem State.accept_phase (c : Command) : (s.accept c).phase = s.phase := rfl
@[simp] theorem State.accept_busy (c : Command) : (s.accept c).busy = true := rfl
@[simp] theorem State.accept_pending (c : Command) : (s.accept c).pending = some c := rfl
@[simp] theorem State.accept_cmderr (c : Command) : (s.accept c).cmderr = s.cmderr := rfl
@[simp] theorem State.accept_cmdcause (c : Command) : (s.accept c).cmdcause = s.cmdcause := rfl
@[simp] theorem State.accept_errkind (c : Command) : (s.accept c).errkind = s.errkind := rfl
@[simp] theorem State.accept_erridx (c : Command) : (s.accept c).erridx = s.erridx := rfl
@[simp] theorem State.accept_consumed (c : Command) : (s.accept c).consumed = s.consumed := rfl
@[simp] theorem State.accept_dbuf (c : Command) : (s.accept c).dbuf = s.dbuf := rfl
@[simp] theorem State.accept_pkt (c : Command) : (s.accept c).pkt = s.pkt := rfl
@[simp] theorem State.accept_par (c : Command) : (s.accept c).par = s.par := rfl
@[simp] theorem State.accept_dew (c : Command) : (s.accept c).dew = s.dew := rfl
@[simp] theorem State.accept_serial (c : Command) : (s.accept c).serial = s.serial := rfl
@[simp] theorem State.accept_humidity (c : Command) : (s.accept c).humidity = s.humidity := rfl
@[simp] theorem State.accept_temp (c : Command) : (s.accept c).temp = s.temp := rfl
@[simp] theorem State.accept_tint (c : Command) : (s.accept c).tint = s.tint := rfl
@[simp] theorem State.accept_tfrac (c : Command) : (s.accept c).tfrac = s.tfrac := rfl
@[simp] theorem State.accept_events (c : Command) : (s.accept c).events = s.events := rfl
@[simp] theorem State.accept_reads (c : Command) : (s.accept c).reads = s.reads := rfl
@[simp] theorem State.accept_draws (c : Command) : (s.accept c).draws = s.draws := rfl
@[simp] theorem State.accept_busyTxns (c : Command) : (s.accept c).busyTxns = 0 := rfl

/-! ### State.finish -/

@[simp] theorem State.finish_cap : s.finish.cap = s.cap := rfl
@[simp] theorem State.finish_pol : s.finish.pol = s.pol := rfl
@[simp] theorem State.finish_phase : s.finish.phase = s.phase := rfl
@[simp] theorem State.finish_busy : s.finish.busy = false := rfl
@[simp] theorem State.finish_pending : s.finish.pending = none := rfl
@[simp] theorem State.finish_cmderr : s.finish.cmderr = s.cmderr := rfl
@[simp] theorem State.finish_cmdcause : s.finish.cmdcause = s.cmdcause := rfl
@[simp] theorem State.finish_errkind : s.finish.errkind = s.errkind := rfl
@[simp] theorem State.finish_erridx : s.finish.erridx = s.erridx := rfl
@[simp] theorem State.finish_consumed : s.finish.consumed = s.consumed := rfl
@[simp] theorem State.finish_dbuf : s.finish.dbuf = s.dbuf := rfl
@[simp] theorem State.finish_pkt : s.finish.pkt = s.pkt := rfl
@[simp] theorem State.finish_par : s.finish.par = s.par := rfl
@[simp] theorem State.finish_dew : s.finish.dew = s.dew := rfl
@[simp] theorem State.finish_serial : s.finish.serial = s.serial := rfl
@[simp] theorem State.finish_humidity : s.finish.humidity = s.humidity := rfl
@[simp] theorem State.finish_temp : s.finish.temp = s.temp := rfl
@[simp] theorem State.finish_tint : s.finish.tint = s.tint := rfl
@[simp] theorem State.finish_tfrac : s.finish.tfrac = s.tfrac := rfl
@[simp] theorem State.finish_events : s.finish.events = s.events := rfl
@[simp] theorem State.finish_reads : s.finish.reads = s.reads := rfl
@[simp] theorem State.finish_draws : s.finish.draws = s.draws := rfl
@[simp] theorem State.finish_busyTxns : s.finish.busyTxns = s.busyTxns := rfl

/-! ### State.resetCore -/

@[simp] theorem State.resetCore_cap : s.resetCore.cap = State.reset.cap := rfl
@[simp] theorem State.resetCore_pol : s.resetCore.pol = State.reset.pol := rfl
@[simp] theorem State.resetCore_phase : s.resetCore.phase = State.reset.phase := rfl
@[simp] theorem State.resetCore_busy : s.resetCore.busy = State.reset.busy := rfl
@[simp] theorem State.resetCore_pending : s.resetCore.pending = State.reset.pending := rfl
@[simp] theorem State.resetCore_cmderr : s.resetCore.cmderr = State.reset.cmderr := rfl
@[simp] theorem State.resetCore_cmdcause : s.resetCore.cmdcause = State.reset.cmdcause := rfl
@[simp] theorem State.resetCore_errkind : s.resetCore.errkind = State.reset.errkind := rfl
@[simp] theorem State.resetCore_erridx : s.resetCore.erridx = State.reset.erridx := rfl
@[simp] theorem State.resetCore_consumed : s.resetCore.consumed = State.reset.consumed := rfl
@[simp] theorem State.resetCore_dbuf : s.resetCore.dbuf = State.reset.dbuf := rfl
@[simp] theorem State.resetCore_pkt : s.resetCore.pkt = State.reset.pkt := rfl
@[simp] theorem State.resetCore_par : s.resetCore.par = State.reset.par := rfl
@[simp] theorem State.resetCore_dew : s.resetCore.dew = State.reset.dew := rfl
@[simp] theorem State.resetCore_serial : s.resetCore.serial = State.reset.serial := rfl
@[simp] theorem State.resetCore_humidity : s.resetCore.humidity = State.reset.humidity := rfl
@[simp] theorem State.resetCore_temp : s.resetCore.temp = State.reset.temp := rfl
@[simp] theorem State.resetCore_tint : s.resetCore.tint = State.reset.tint := rfl
@[simp] theorem State.resetCore_tfrac : s.resetCore.tfrac = State.reset.tfrac := rfl
@[simp] theorem State.resetCore_events : s.resetCore.events = s.events := rfl
@[simp] theorem State.resetCore_reads : s.resetCore.reads = s.reads := rfl
@[simp] theorem State.resetCore_draws : s.resetCore.draws = s.draws := rfl
@[simp] theorem State.resetCore_busyTxns : s.resetCore.busyTxns = State.reset.busyTxns := rfl

/-! ### State.withEvents -/

@[simp] theorem State.withEvents_cap (es : List Event) : (s.withEvents es).cap = s.cap := rfl
@[simp] theorem State.withEvents_pol (es : List Event) : (s.withEvents es).pol = s.pol := rfl
@[simp] theorem State.withEvents_phase (es : List Event) : (s.withEvents es).phase = s.phase := rfl
@[simp] theorem State.withEvents_busy (es : List Event) : (s.withEvents es).busy = s.busy := rfl
@[simp] theorem State.withEvents_pending (es : List Event) : (s.withEvents es).pending = s.pending := rfl
@[simp] theorem State.withEvents_cmderr (es : List Event) : (s.withEvents es).cmderr = s.cmderr := rfl
@[simp] theorem State.withEvents_cmdcause (es : List Event) : (s.withEvents es).cmdcause = s.cmdcause := rfl
@[simp] theorem State.withEvents_errkind (es : List Event) : (s.withEvents es).errkind = s.errkind := rfl
@[simp] theorem State.withEvents_erridx (es : List Event) : (s.withEvents es).erridx = s.erridx := rfl
@[simp] theorem State.withEvents_consumed (es : List Event) : (s.withEvents es).consumed = s.consumed := rfl
@[simp] theorem State.withEvents_dbuf (es : List Event) : (s.withEvents es).dbuf = s.dbuf := rfl
@[simp] theorem State.withEvents_pkt (es : List Event) : (s.withEvents es).pkt = s.pkt := rfl
@[simp] theorem State.withEvents_par (es : List Event) : (s.withEvents es).par = s.par := rfl
@[simp] theorem State.withEvents_dew (es : List Event) : (s.withEvents es).dew = s.dew := rfl
@[simp] theorem State.withEvents_serial (es : List Event) : (s.withEvents es).serial = s.serial := rfl
@[simp] theorem State.withEvents_humidity (es : List Event) : (s.withEvents es).humidity = s.humidity := rfl
@[simp] theorem State.withEvents_temp (es : List Event) : (s.withEvents es).temp = s.temp := rfl
@[simp] theorem State.withEvents_tint (es : List Event) : (s.withEvents es).tint = s.tint := rfl
@[simp] theorem State.withEvents_tfrac (es : List Event) : (s.withEvents es).tfrac = s.tfrac := rfl
@[simp] theorem State.withEvents_events (es : List Event) : (s.withEvents es).events = es := rfl
@[simp] theorem State.withEvents_reads (es : List Event) : (s.withEvents es).reads = s.reads := rfl
@[simp] theorem State.withEvents_draws (es : List Event) : (s.withEvents es).draws = s.draws := rfl
@[simp] theorem State.withEvents_busyTxns (es : List Event) : (s.withEvents es).busyTxns = s.busyTxns := rfl

/-! ### State.countTxn -/

@[simp] theorem State.countTxn_cap : s.countTxn.cap = s.cap := rfl
@[simp] theorem State.countTxn_pol : s.countTxn.pol = s.pol := rfl
@[simp] theorem State.countTxn_phase : s.countTxn.phase = s.phase := rfl
@[simp] theorem State.countTxn_busy : s.countTxn.busy = s.busy := rfl
@[simp] theorem State.countTxn_pending : s.countTxn.pending = s.pending := rfl
@[simp] theorem State.countTxn_cmderr : s.countTxn.cmderr = s.cmderr := rfl
@[simp] theorem State.countTxn_cmdcause : s.countTxn.cmdcause = s.cmdcause := rfl
@[simp] theorem State.countTxn_errkind : s.countTxn.errkind = s.errkind := rfl
@[simp] theorem State.countTxn_erridx : s.countTxn.erridx = s.erridx := rfl
@[simp] theorem State.countTxn_consumed : s.countTxn.consumed = s.consumed := rfl
@[simp] theorem State.countTxn_dbuf : s.countTxn.dbuf = s.dbuf := rfl
@[simp] theorem State.countTxn_pkt : s.countTxn.pkt = s.pkt := rfl
@[simp] theorem State.countTxn_par : s.countTxn.par = s.par := rfl
@[simp] theorem State.countTxn_dew : s.countTxn.dew = s.dew := rfl
@[simp] theorem State.countTxn_serial : s.countTxn.serial = s.serial := rfl
@[simp] theorem State.countTxn_humidity : s.countTxn.humidity = s.humidity := rfl
@[simp] theorem State.countTxn_temp : s.countTxn.temp = s.temp := rfl
@[simp] theorem State.countTxn_tint : s.countTxn.tint = s.tint := rfl
@[simp] theorem State.countTxn_tfrac : s.countTxn.tfrac = s.tfrac := rfl
@[simp] theorem State.countTxn_events : s.countTxn.events = s.events := rfl
@[simp] theorem State.countTxn_reads : s.countTxn.reads = s.reads := rfl
@[simp] theorem State.countTxn_draws : s.countTxn.draws = s.draws := rfl
@[simp] theorem State.countTxn_busyTxns : s.countTxn.busyTxns = if s.busy then s.busyTxns + 1 else s.busyTxns := rfl

/-! ### State.presentNext -/

@[simp] theorem State.presentNext_cap (w : TxnWord) : (s.presentNext w).cap = s.cap := rfl
@[simp] theorem State.presentNext_pol (w : TxnWord) : (s.presentNext w).pol = s.pol := rfl
@[simp] theorem State.presentNext_phase (w : TxnWord) : (s.presentNext w).phase = s.phase := rfl
@[simp] theorem State.presentNext_busy (w : TxnWord) : (s.presentNext w).busy = s.busy := rfl
@[simp] theorem State.presentNext_pending (w : TxnWord) : (s.presentNext w).pending = s.pending := rfl
@[simp] theorem State.presentNext_cmderr (w : TxnWord) : (s.presentNext w).cmderr = s.cmderr := rfl
@[simp] theorem State.presentNext_cmdcause (w : TxnWord) : (s.presentNext w).cmdcause = s.cmdcause := rfl
@[simp] theorem State.presentNext_errkind (w : TxnWord) : (s.presentNext w).errkind = s.errkind := rfl
@[simp] theorem State.presentNext_erridx (w : TxnWord) : (s.presentNext w).erridx = s.erridx := rfl
@[simp] theorem State.presentNext_consumed (w : TxnWord) : (s.presentNext w).consumed = s.consumed := rfl
@[simp] theorem State.presentNext_dbuf (w : TxnWord) : (s.presentNext w).dbuf = s.dbuf := rfl
@[simp] theorem State.presentNext_pkt (w : TxnWord) : (s.presentNext w).pkt = s.pkt := rfl
@[simp] theorem State.presentNext_par (w : TxnWord) : (s.presentNext w).par = s.par := rfl
@[simp] theorem State.presentNext_dew (w : TxnWord) : (s.presentNext w).dew = s.dew := rfl
@[simp] theorem State.presentNext_serial (w : TxnWord) : (s.presentNext w).serial = s.serial := rfl
@[simp] theorem State.presentNext_humidity (w : TxnWord) : (s.presentNext w).humidity = s.humidity := rfl
@[simp] theorem State.presentNext_temp (w : TxnWord) : (s.presentNext w).temp = s.temp := rfl
@[simp] theorem State.presentNext_tint (w : TxnWord) : (s.presentNext w).tint = s.tint := rfl
@[simp] theorem State.presentNext_tfrac (w : TxnWord) : (s.presentNext w).tfrac = s.tfrac := rfl
@[simp] theorem State.presentNext_events (w : TxnWord) : (s.presentNext w).events = .txn w :: s.events := rfl
@[simp] theorem State.presentNext_reads (w : TxnWord) : (s.presentNext w).reads = s.reads := rfl
@[simp] theorem State.presentNext_draws (w : TxnWord) : (s.presentNext w).draws = s.draws := rfl
@[simp] theorem State.presentNext_busyTxns (w : TxnWord) : (s.presentNext w).busyTxns = s.busyTxns := rfl

/-! ### State.presentAll -/

@[simp] theorem State.presentAll_cap (ws : List TxnWord) : (s.presentAll ws).cap = s.cap := rfl
@[simp] theorem State.presentAll_pol (ws : List TxnWord) : (s.presentAll ws).pol = s.pol := rfl
@[simp] theorem State.presentAll_phase (ws : List TxnWord) : (s.presentAll ws).phase = s.phase := rfl
@[simp] theorem State.presentAll_busy (ws : List TxnWord) : (s.presentAll ws).busy = s.busy := rfl
@[simp] theorem State.presentAll_pending (ws : List TxnWord) : (s.presentAll ws).pending = s.pending := rfl
@[simp] theorem State.presentAll_cmderr (ws : List TxnWord) : (s.presentAll ws).cmderr = s.cmderr := rfl
@[simp] theorem State.presentAll_cmdcause (ws : List TxnWord) : (s.presentAll ws).cmdcause = s.cmdcause := rfl
@[simp] theorem State.presentAll_errkind (ws : List TxnWord) : (s.presentAll ws).errkind = s.errkind := rfl
@[simp] theorem State.presentAll_erridx (ws : List TxnWord) : (s.presentAll ws).erridx = s.erridx := rfl
@[simp] theorem State.presentAll_consumed (ws : List TxnWord) : (s.presentAll ws).consumed = s.consumed := rfl
@[simp] theorem State.presentAll_dbuf (ws : List TxnWord) : (s.presentAll ws).dbuf = s.dbuf := rfl
@[simp] theorem State.presentAll_pkt (ws : List TxnWord) : (s.presentAll ws).pkt = s.pkt := rfl
@[simp] theorem State.presentAll_par (ws : List TxnWord) : (s.presentAll ws).par = s.par := rfl
@[simp] theorem State.presentAll_dew (ws : List TxnWord) : (s.presentAll ws).dew = s.dew := rfl
@[simp] theorem State.presentAll_serial (ws : List TxnWord) : (s.presentAll ws).serial = s.serial := rfl
@[simp] theorem State.presentAll_humidity (ws : List TxnWord) : (s.presentAll ws).humidity = s.humidity := rfl
@[simp] theorem State.presentAll_temp (ws : List TxnWord) : (s.presentAll ws).temp = s.temp := rfl
@[simp] theorem State.presentAll_tint (ws : List TxnWord) : (s.presentAll ws).tint = s.tint := rfl
@[simp] theorem State.presentAll_tfrac (ws : List TxnWord) : (s.presentAll ws).tfrac = s.tfrac := rfl
@[simp] theorem State.presentAll_events (ws : List TxnWord) : (s.presentAll ws).events = s.events ++ ws.map .txn := rfl
@[simp] theorem State.presentAll_reads (ws : List TxnWord) : (s.presentAll ws).reads = s.reads := rfl
@[simp] theorem State.presentAll_draws (ws : List TxnWord) : (s.presentAll ws).draws = s.draws := rfl
@[simp] theorem State.presentAll_busyTxns (ws : List TxnWord) : (s.presentAll ws).busyTxns = s.busyTxns := rfl

/-! ### realign -/

@[simp] theorem realign_cap : (realign s).cap = s.cap := rfl
@[simp] theorem realign_pol : (realign s).pol = s.pol := rfl
@[simp] theorem realign_phase : (realign s).phase = s.phase := rfl
@[simp] theorem realign_busy : (realign s).busy = s.busy := rfl
@[simp] theorem realign_pending : (realign s).pending = s.pending := rfl
@[simp] theorem realign_cmderr : (realign s).cmderr = s.cmderr := rfl
@[simp] theorem realign_cmdcause : (realign s).cmdcause = s.cmdcause := rfl
@[simp] theorem realign_errkind : (realign s).errkind = s.errkind := rfl
@[simp] theorem realign_erridx : (realign s).erridx = s.erridx := rfl
@[simp] theorem realign_consumed : (realign s).consumed = s.consumed := rfl
@[simp] theorem realign_dbuf : (realign s).dbuf = realigned s.pol s.dbuf := rfl
@[simp] theorem realign_pkt : (realign s).pkt = s.pkt := rfl
@[simp] theorem realign_par : (realign s).par = s.par := rfl
@[simp] theorem realign_dew : (realign s).dew = s.dew := rfl
@[simp] theorem realign_serial : (realign s).serial = s.serial := rfl
@[simp] theorem realign_humidity : (realign s).humidity = s.humidity := rfl
@[simp] theorem realign_temp : (realign s).temp = s.temp := rfl
@[simp] theorem realign_tint : (realign s).tint = s.tint := rfl
@[simp] theorem realign_tfrac : (realign s).tfrac = s.tfrac := rfl
@[simp] theorem realign_events : (realign s).events = s.events := rfl
@[simp] theorem realign_reads : (realign s).reads = s.reads := rfl
@[simp] theorem realign_draws : (realign s).draws = s.draws := rfl
@[simp] theorem realign_busyTxns : (realign s).busyTxns = s.busyTxns := rfl

/-! ### unpack -/

@[simp] theorem unpack_cap : (unpack s).cap = s.cap := rfl
@[simp] theorem unpack_pol : (unpack s).pol = s.pol := rfl
@[simp] theorem unpack_phase : (unpack s).phase = s.phase := rfl
@[simp] theorem unpack_busy : (unpack s).busy = s.busy := rfl
@[simp] theorem unpack_pending : (unpack s).pending = s.pending := rfl
@[simp] theorem unpack_cmderr : (unpack s).cmderr = s.cmderr := rfl
@[simp] theorem unpack_cmdcause : (unpack s).cmdcause = s.cmdcause := rfl
@[simp] theorem unpack_errkind : (unpack s).errkind = s.errkind := rfl
@[simp] theorem unpack_erridx : (unpack s).erridx = s.erridx := rfl
@[simp] theorem unpack_consumed : (unpack s).consumed = s.consumed := rfl
@[simp] theorem unpack_dbuf : (unpack s).dbuf = s.dbuf := rfl
@[simp] theorem unpack_pkt : (unpack s).pkt = packetOf s.dbuf := rfl
@[simp] theorem unpack_par : (unpack s).par = parityBitsOf Config.parityTap s.dbuf := rfl
@[simp] theorem unpack_dew : (unpack s).dew = s.dew := rfl
@[simp] theorem unpack_serial : (unpack s).serial = s.serial := rfl
@[simp] theorem unpack_humidity : (unpack s).humidity = s.humidity := rfl
@[simp] theorem unpack_temp : (unpack s).temp = s.temp := rfl
@[simp] theorem unpack_tint : (unpack s).tint = s.tint := rfl
@[simp] theorem unpack_tfrac : (unpack s).tfrac = s.tfrac := rfl
@[simp] theorem unpack_events : (unpack s).events = s.events := rfl
@[simp] theorem unpack_reads : (unpack s).reads = s.reads := rfl
@[simp] theorem unpack_draws : (unpack s).draws = s.draws := rfl
@[simp] theorem unpack_busyTxns : (unpack s).busyTxns = s.busyTxns := rfl

/-! ### dewhiten -/

@[simp] theorem dewhiten_cap : (dewhiten s).cap = s.cap := rfl
@[simp] theorem dewhiten_pol : (dewhiten s).pol = s.pol := rfl
@[simp] theorem dewhiten_phase : (dewhiten s).phase = s.phase := rfl
@[simp] theorem dewhiten_busy : (dewhiten s).busy = s.busy := rfl
@[simp] theorem dewhiten_pending : (dewhiten s).pending = s.pending := rfl
@[simp] theorem dewhiten_cmderr : (dewhiten s).cmderr = s.cmderr := rfl
@[simp] theorem dewhiten_cmdcause : (dewhiten s).cmdcause = s.cmdcause := rfl
@[simp] theorem dewhiten_errkind : (dewhiten s).errkind = s.errkind := rfl
@[simp] theorem dewhiten_erridx : (dewhiten s).erridx = s.erridx := rfl
@[simp] theorem dewhiten_consumed : (dewhiten s).consumed = s.consumed := rfl
@[simp] theorem dewhiten_dbuf : (dewhiten s).dbuf = s.dbuf := rfl
@[simp] theorem dewhiten_pkt : (dewhiten s).pkt = s.pkt := rfl
@[simp] theorem dewhiten_par : (dewhiten s).par = s.par := rfl
@[simp] theorem dewhiten_dew : (dewhiten s).dew = dewhitened s.pkt := rfl
@[simp] theorem dewhiten_serial : (dewhiten s).serial = s.serial := rfl
@[simp] theorem dewhiten_humidity : (dewhiten s).humidity = s.humidity := rfl
@[simp] theorem dewhiten_temp : (dewhiten s).temp = s.temp := rfl
@[simp] theorem dewhiten_tint : (dewhiten s).tint = s.tint := rfl
@[simp] theorem dewhiten_tfrac : (dewhiten s).tfrac = s.tfrac := rfl
@[simp] theorem dewhiten_events : (dewhiten s).events = s.events := rfl
@[simp] theorem dewhiten_reads : (dewhiten s).reads = s.reads := rfl
@[simp] theorem dewhiten_draws : (dewhiten s).draws = s.draws := rfl
@[simp] theorem dewhiten_busyTxns : (dewhiten s).busyTxns = s.busyTxns := rfl

/-! ### extract -/

@[simp] theorem extract_cap : (extract s).cap = s.cap := rfl
@[simp] theorem extract_pol : (extract s).pol = s.pol := rfl
@[simp] theorem extract_phase : (extract s).phase = s.phase := rfl
@[simp] theorem extract_busy : (extract s).busy = s.busy := rfl
@[simp] theorem extract_pending : (extract s).pending = s.pending := rfl
@[simp] theorem extract_cmderr : (extract s).cmderr = s.cmderr := rfl
@[simp] theorem extract_cmdcause : (extract s).cmdcause = s.cmdcause := rfl
@[simp] theorem extract_errkind : (extract s).errkind = s.errkind := rfl
@[simp] theorem extract_erridx : (extract s).erridx = s.erridx := rfl
@[simp] theorem extract_consumed : (extract s).consumed = s.consumed := rfl
@[simp] theorem extract_dbuf : (extract s).dbuf = s.dbuf := rfl
@[simp] theorem extract_pkt : (extract s).pkt = s.pkt := rfl
@[simp] theorem extract_par : (extract s).par = s.par := rfl
@[simp] theorem extract_dew : (extract s).dew = s.dew := rfl
@[simp] theorem extract_serial : (extract s).serial = s.dew[Config.idxSerial] := rfl
@[simp] theorem extract_humidity : (extract s).humidity = s.dew[Config.idxHumidity] := rfl
@[simp] theorem extract_temp : (extract s).temp = temperatureOf s.dew := rfl
@[simp] theorem extract_tint : (extract s).tint = integerPart (temperatureOf s.dew) := rfl
@[simp] theorem extract_tfrac : (extract s).tfrac = fractionDigit (temperatureOf s.dew) := rfl
@[simp] theorem extract_events : (extract s).events = s.events := rfl
@[simp] theorem extract_reads : (extract s).reads = s.reads := rfl
@[simp] theorem extract_draws : (extract s).draws = s.draws := rfl
@[simp] theorem extract_busyTxns : (extract s).busyTxns = s.busyTxns := rfl

end Sys2Proof.Machine
end

