-- ==== Sys2Proof/Laws/Ops.lean ====
section
/-! SUPPORT. What each shared operation can do, once: the write gate, reading, the exec arms, the transitions, the completion. -/

namespace Sys2Proof.Machine

/-! ### The write gate (R113) -/

theorem writeUnlessBusy_of_busy {s : State} (effect : State → State) (h : s.busy = true) :
    s.writeUnlessBusy effect = s.raiseCommandError .writeWhileBusy := by
  simp [State.writeUnlessBusy, h]

theorem writeUnlessBusy_of_rest {s : State} (effect : State → State) (h : s.busy = false) :
    s.writeUnlessBusy effect = effect s := by
  simp [State.writeUnlessBusy, h]

/-! ### Reading (R110, R112) -/

theorem readByte_of_rest {s : State} (off : Offset) (h : s.busy = false) : s.readByte off = s.readValue off := by
  simp [State.readByte, h]

theorem readByte_of_drawSet {s : State} {off : Offset} (h : s.busy = true) (hd : inDrawSet off = true) :
    s.readByte off = Config.draw8 s.draws := by
  simp [State.readByte, h, hd]

theorem readByte_of_status {s : State} (h : s.busy = true) :
    s.readByte statusOffset = Config.draw3 s.draws ++ 1#1 ++ Config.draw4 s.draws := by
  have : inDrawSet statusOffset = false := by decide
  simp [State.readByte, h, this]

theorem readByte_of_noDraw {s : State} {off : Offset} (hd : readsAsDraw off = false) :
    s.readByte off = s.readValue off := by
  simp only [readsAsDraw, Bool.or_eq_false_iff] at hd
  simp [State.readByte, hd.1, hd.2]

/-! ### The arms of exec -/

theorem exec_rd (off : Offset) (s : State) : exec (.rd off) s = .next (s.hostRead off) := rfl
theorem exec_wr (off : Offset) (v : Byte) (s : State) :
    exec (.wr off v) s = .next (s.writeUnlessBusy (writeReg (regAt off) v)) := rfl
theorem exec_nop (s : State) : exec .nop s = .next (s.writeUnlessBusy commandNop) := rfl
theorem exec_decode (s : State) : exec .decode s = .next (s.writeUnlessBusy commandDecode) := rfl
theorem exec_step (s : State) : exec .step s = .next (s.writeUnlessBusy commandStep) := rfl
theorem exec_clear (s : State) : exec .clear s = .next (s.writeUnlessBusy commandClear) := rfl
theorem exec_reservedCmd (v : Byte) (s : State) : exec (.reservedCmd v) s = .next (s.writeUnlessBusy (command v)) := rfl

/-- Every transaction answers a next state: none faults and none is refused (R110, R250). -/
theorem exec_answers (i : Instr) (s : State) : ∃ t, exec i s = .next t := by
  cases i <;> exact ⟨_, rfl⟩

/-- What a command byte can do with BUSY = 0 (R130). -/
theorem command_cases (v : Byte) (s : State) :
    command v s = s ∨ command v s = s.clearCommandError.accept .decode ∨
    (s.phase.isTerminal = true ∧ command v s = s.raiseCommandError .stepInTerminal) ∨
    (s.phase.isTerminal = false ∧ command v s = s.accept .step) ∨
    command v s = s.clearCommandError.accept .clear ∨ command v s = s.raiseCommandError .reservedOpcode := by
  unfold command
  split
  · exact .inl rfl
  split
  · exact .inr (.inl rfl)
  split
  · cases h : s.phase.isTerminal <;> simp [commandStep, h]
  split
  · exact .inr (.inr (.inr (.inr (.inl rfl))))
  · exact .inr (.inr (.inr (.inr (.inr rfl))))

/-- What one transaction can do to the state: the complete list (R110, R111, R113, R130). -/
inductive Effect (s : State) : State → Prop where
  /-- A read: a byte goes out, perhaps a draw is used up. -/
  | read (b : Byte) (d : Nat) : Effect s { s with reads := b :: s.reads, draws := d }
  /-- A write that changes nothing: NOP, or an offset that ignores writes. -/
  | ignored (h : s.busy = false) : Effect s s
  | cap (h : s.busy = false) (i : Fin 20) (v : Byte) : Effect s (s.setCap i v)
  | ctrl (h : s.busy = false) (v : Byte) : Effect s (s.setCtrl v)
  | accepted (h : s.busy = false) (c : Command) (hc : c ≠ .step) : Effect s (s.clearCommandError.accept c)
  | acceptedStep (h : s.busy = false) (ht : s.phase.isTerminal = false) : Effect s (s.accept .step)
  /-- A command error: the write has no other effect. -/
  | commandError (c : CmdCause) (hc : c ≠ .none) : Effect s (s.raiseCommandError c)

theorem effect_of_command {s : State} (h : s.busy = false) (v : Byte) : Effect s (command v s) := by
  obtain e | e | ⟨-, e⟩ | ⟨ht, e⟩ | e | e := command_cases v s <;> rw [e]
  · exact .ignored h
  · exact .accepted h .decode (by decide)
  · exact .commandError _ (by decide)
  · exact .acceptedStep h ht
  · exact .accepted h .clear (by decide)
  · exact .commandError _ (by decide)

theorem effect_of_write {s : State} (effect : State → State) (h : s.busy = false → Effect s (effect s)) :
    Effect s (s.writeUnlessBusy effect) := by
  cases hb : s.busy
  · rw [writeUnlessBusy_of_rest _ hb]; exact h hb
  · rw [writeUnlessBusy_of_busy _ hb]; exact .commandError _ (by decide)

/-- The inversion of exec: if a transaction answers a next state, it is one of these. -/
theorem exec_effect {i : Instr} {s t : State} (h : exec i s = .next t) : Effect s t := by
  cases i with
  | rd off => cases h; exact .read _ _
  | wr off v =>
    cases h
    refine effect_of_write _ fun hb => ?_
    unfold writeReg
    split
    case h_1 => exact .cap hb _ v
    case h_2 => exact .ctrl hb v
    case h_3 => exact effect_of_command hb v
    all_goals exact .ignored hb
  | nop => cases h; exact effect_of_write _ fun hb => .ignored hb
  | decode => cases h; exact effect_of_write _ fun hb => .accepted hb .decode (by decide)
  | step =>
    cases h
    refine effect_of_write _ fun hb => ?_
    cases ht : s.phase.isTerminal
    · simp only [commandStep, ht]; exact .acceptedStep hb ht
    · simp only [commandStep, ht]; exact .commandError _ (by decide)
  | clear => cases h; exact effect_of_write _ fun hb => .accepted hb .clear (by decide)
  | reservedCmd v => cases h; exact effect_of_write _ fun hb => effect_of_command hb v

/-- While a command is in flight a transaction touches the command error and the port alone (R67, R112, R113). -/
theorem exec_frame_of_busy {i : Instr} {s t : State} (hb : s.busy = true) (h : exec i s = .next t) :
    t = { s with cmderr := t.cmderr, cmdcause := t.cmdcause, reads := t.reads, draws := t.draws } := by
  cases exec_effect h <;> first | rfl | simp_all

/-! ### The sequencer -/

theorem transitionIdle_of_violation {s : State} {k : Nat} (h : firstViolation s.cap = some k) :
    transitionIdle s =
      { s with consumed := BitVec.ofNat 8 k, errkind := .manchester, erridx := BitVec.ofNat 8 k, phase := .violation } := by
  simp [transitionIdle, lineDecode, h, State.raiseManchester, State.setPhase]

theorem transitionIdle_of_clean {s : State} (h : firstViolation s.cap = none) :
    transitionIdle s =
      { s with dbuf := realigned s.pol (decodedBuffer .sameRank s.cap), consumed := 20#8, phase := .realigned } := by
  simp [transitionIdle, lineDecode, h, State.setPhase, realign, Config.groupOrder, Config.capLen]

theorem transitionRealigned_eq (s : State) :
    transitionRealigned s = { s with pkt := packetOf s.dbuf, par := parityBitsOf .geometric s.dbuf, phase := .unpacked } := rfl

theorem transitionUnpacked_of_mismatch {s : State} {i : Fin 9} (h : validate s.pkt s.par = some i) :
    transitionUnpacked s =
      { s with errkind := .parity, erridx := BitVec.ofNat 8 i.val, phase := .parityFailure } := by
  simp [transitionUnpacked, h, State.raiseParity, State.setPhase]

theorem transitionUnpacked_of_pass {s : State} (h : validate s.pkt s.par = none) :
    transitionUnpacked s = { s with dew := dewhitened s.pkt, phase := .dewhitened } := by
  simp [transitionUnpacked, h, dewhiten, State.setPhase]

theorem transitionDewhitened_eq (s : State) :
    transitionDewhitened s =
      { s with serial := s.dew[4], humidity := s.dew[7], temp := temperatureOf s.dew,
               tint := integerPart (temperatureOf s.dew), tfrac := fractionDigit (temperatureOf s.dew),
               phase := .extracted } := rfl

/-- The inversion of a transition: from which phase, to what. -/
theorem transition_cases {s t : State} (h : transition s = .next t) :
    (s.phase = .idle ∧ t = transitionIdle s) ∨ (s.phase = .realigned ∧ t = transitionRealigned s) ∨
    (s.phase = .unpacked ∧ t = transitionUnpacked s) ∨ (s.phase = .dewhitened ∧ t = transitionDewhitened s) := by
  unfold transition at h
  split at h <;> cases h <;> simp_all

/-- The inversion of a completion: the command in flight had its effect, and nothing is in flight any more. -/
theorem complete_cases {s t : State} (h : complete s = .next t) :
    ∃ c u, s.pending = some c ∧ commandEffect c s = .next u ∧ t = u.finish := by
  unfold complete at h
  split at h
  · cases h
  · next c hc =>
    split at h
    · next u hu => exact ⟨c, u, hc, hu, by cases h; rfl⟩
    all_goals cases h

/-! ### What a completion leaves alone -/

/-- The elements no stage and no transition writes (R11, R20). -/
def SameOutsideCall (s t : State) : Prop :=
  t.cap = s.cap ∧ t.pol = s.pol ∧ t.cmderr = s.cmderr ∧ t.cmdcause = s.cmdcause ∧ t.events = s.events ∧
    t.reads = s.reads ∧ t.draws = s.draws ∧ t.busyTxns = s.busyTxns

theorem SameOutsideCall.trans {s t u : State} (h : SameOutsideCall s t) (k : SameOutsideCall t u) :
    SameOutsideCall s u := by
  unfold SameOutsideCall at *
  simp_all

theorem transition_frame {s t : State} (h : transition s = .next t) :
    SameOutsideCall s t ∧ t.busy = s.busy ∧ t.pending = s.pending := by
  obtain ⟨-, rfl⟩ | ⟨-, rfl⟩ | ⟨-, rfl⟩ | ⟨-, rfl⟩ := transition_cases h
  · cases hv : firstViolation s.cap with
    | none => simp [transitionIdle_of_clean hv, SameOutsideCall]
    | some k => simp [transitionIdle_of_violation hv, SameOutsideCall]
  · simp [transitionRealigned_eq, SameOutsideCall]
  · cases hv : validate s.pkt s.par with
    | none => simp [transitionUnpacked_of_pass hv, SameOutsideCall]
    | some i => simp [transitionUnpacked_of_mismatch hv, SameOutsideCall]
  · simp [transitionDewhitened_eq, SameOutsideCall]

theorem runCall_of_terminal {s : State} (n : Nat) (h : s.phase.isTerminal = true) : runCall n s = .next s := by
  cases n <;> simp [runCall, h]

theorem runCall_of_transition {s t : State} (n : Nat) (hs : s.phase.isTerminal = false) (h : transition s = .next t) :
    runCall (n + 1) s = runCall n t := by
  rw [runCall, h]
  simp [hs]

theorem runCall_frame {n : Nat} {s t : State} (h : runCall n s = .next t) :
    SameOutsideCall s t ∧ t.busy = s.busy ∧ t.pending = s.pending := by
  induction n generalizing s with
  | zero =>
    unfold runCall at h
    split at h <;> cases h
    simp [SameOutsideCall]
  | succ n ih =>
    unfold runCall at h
    split at h
    · cases h; simp [SameOutsideCall]
    · split at h
      · next u hu =>
        obtain ⟨a, b, c⟩ := transition_frame hu
        obtain ⟨x, y, z⟩ := ih h
        exact ⟨a.trans x, y.trans b, z.trans c⟩
      all_goals cases h

theorem commandEffect_frame {c : Command} {s t : State} (h : commandEffect c s = .next t) : SameOutsideCall s t := by
  cases c with
  | decode => simpa [SameOutsideCall] using (runCall_frame h).1
  | step => exact (transition_frame h).1
  | clear => cases h; simp [SameOutsideCall]

/-- A completion keeps the capture, the command error and the port, and ends with nothing in flight (R132). -/
theorem complete_frame {s t : State} (h : complete s = .next t) :
    SameOutsideCall s t ∧ t.busy = false ∧ t.pending = none := by
  obtain ⟨c, u, -, hu, rfl⟩ := complete_cases h
  exact ⟨by simpa [SameOutsideCall] using commandEffect_frame hu, rfl, rfl⟩

/-! ### The step -/

/-- The inversion of a step that answers a next state. -/
theorem step_cases {s t : State} (h : step s = .next t) :
    (s.events = [] ∧ s.busy = false ∧ t = s) ∨
    (s.events = [] ∧ s.busy = true ∧ complete s = .next t) ∨
    (∃ es, s.events = .completion :: es ∧ s.busy = true ∧ complete (s.withEvents es) = .next t) ∨
    (∃ es, s.events = .completion :: es ∧ s.busy = false ∧ t = s.withEvents es) ∨
    (∃ es, s.events = .rst :: es ∧ t = (s.withEvents es).resetCore) ∨
    (∃ es w i, s.events = .txn w :: es ∧ decode w = .instr i ∧ exec i (s.withEvents es).countTxn = .next t) := by
  unfold step nextTurn at h
  match he : s.events, hb : s.busy with
  | [], false => simp only [he, hb] at h; cases h; simp
  | [], true => simp only [he, hb, if_true] at h; simp [h]
  | .completion :: es, false => simp only [he, hb] at h; cases h; simp
  | .completion :: es, true => simp only [he, hb] at h; simp_all
  | .rst :: es, _ => simp only [he] at h; cases h; simp
  | .txn w :: es, _ =>
    simp only [he, presentWord] at h
    cases hd : decode w with
    | instr i => simp only [hd] at h; simp_all
    | notATransaction v => simp only [hd] at h; cases h

end Sys2Proof.Machine
end

