-- ==== Sys2Proof/Laws/PerInstr.lean ====
section
/-! SUPPORT. For every transaction: its word fits its own row of spec/opcode_table.json (family TableRow). -/

namespace Sys2Proof.Laws.TableRow

/-- The word of a transaction matches the mask and match of its row. -/
def Statement (i : Instr) : Prop := matchesTable i (encode i) = true

theorem rd (off : Offset) : Statement (.rd off) := by
  simp only [Statement, matchesTable, encode, tablePattern, txnWord, beq_iff_eq]
  apply BitVec.eq_of_getLsbD_eq
  intro i hi
  have : ∀ j, j < 16 → (0x80FF#16).getLsbD j = (decide (j < 8) || decide (j = 15)) := by decide
  rw [BitVec.getLsbD_and, this i hi]
  simp only [BitVec.getLsbD_append]
  by_cases h8 : i < 8
  · simp [h8]
  · by_cases h15 : i = 15
    · subst h15; simp
    · simp [h8, h15]

theorem wr (off : Offset) (data : Byte) : Statement (.wr off data) := by
  simp only [Statement, matchesTable, encode, tablePattern, txnWord, beq_iff_eq]
  apply BitVec.eq_of_getLsbD_eq
  intro i hi
  have : ∀ j, j < 16 → (0x8000#16).getLsbD j = decide (j = 15) := by decide
  rw [BitVec.getLsbD_and, this i hi]
  simp only [BitVec.getLsbD_append]
  by_cases h15 : i = 15
  · subst h15; simp
  · simp [h15]

theorem nop : Statement .nop := by unfold Statement; decide

theorem decode : Statement .decode := by unfold Statement; decide

theorem step : Statement .step := by unfold Statement; decide

theorem clear : Statement .clear := by unfold Statement; decide

theorem reservedCmd (data : Byte) : Statement (.reservedCmd data) := by
  simp only [Statement, matchesTable, encode, tablePattern, txnWord, beq_iff_eq]
  apply BitVec.eq_of_getLsbD_eq
  intro i hi
  have : ∀ j, j < 16 → (0xFF00#16).getLsbD j = decide (8 ≤ j) := by decide
  have that : ∀ j, j < 16 → 8 ≤ j → (0x9500#16).getLsbD j = (1#1 ++ cmdOffset).getLsbD (j - 8) := by decide
  have low : ∀ j, j < 8 → (0x9500#16).getLsbD j = false := by decide
  rw [BitVec.getLsbD_and, this i hi]
  by_cases h8 : 8 ≤ i
  · rw [that i hi h8, BitVec.getLsbD_append, if_neg (by omega)]
    simp [h8]
  · simp [h8, low i (by omega)]

end Sys2Proof.Laws.TableRow
end

