-- ==== Sys2Proof/Tests/Slice0.lean ====
section
/-! SUPPORT. Tests: ill-formed terms, words written out from the spec's encodings, one step or one completion each from
95_test_vectors.md, and a witness for the hypotheses of every statement. -/

namespace Sys2Proof.Tests

open Sys2Proof.Machine

/-! ### WellFormed -/

theorem test_wf_refuses_wr_of_cmd : (Instr.wr 0x15#7 0x01#8).wf = false := by decide
theorem test_wf_refuses_named_reserved : (Instr.reservedCmd 0x03#8).wf = false := by decide
theorem test_wf_accepts :
    (Instr.wr 0x14#7 0xFF#8).wf = true ∧ (Instr.reservedCmd 0x04#8).wf = true ∧ (Instr.rd 0x7F#7).wf = true ∧
    Instr.nop.wf = true ∧ Instr.decode.wf = true ∧ Instr.step.wf = true ∧ Instr.clear.wf = true := by decide

/-! ### Words, bit by bit: WE, OFF[6:0], DATA[7:0] (R80, R84; 95 part 2.1) -/

theorem test_decode_rd : decode 0b0_0010110_00000000#16 = .instr (.rd 0x16#7) := by decide
theorem test_decode_rd_top : decode 0b0_1111111_00000000#16 = .instr (.rd 0x7F#7) := by decide
theorem test_decode_wr : decode 0b1_0000101_01101010#16 = .instr (.wr 0x05#7 0x6A#8) := by decide
theorem test_decode_wr_above_cmd : decode 0b1_0010110_11111111#16 = .instr (.wr 0x16#7 0xFF#8) := by decide
theorem test_decode_nop : decode 0b1_0010101_00000000#16 = .instr .nop := by decide
theorem test_decode_decode : decode 0b1_0010101_00000001#16 = .instr .decode := by decide
theorem test_decode_step : decode 0b1_0010101_00000010#16 = .instr .step := by decide
theorem test_decode_clear : decode 0b1_0010101_00000011#16 = .instr .clear := by decide
theorem test_decode_reserved : decode 0b1_0010101_00000100#16 = .instr (.reservedCmd 0x04#8) := by decide
theorem test_decode_reserved_top : decode 0b1_0010101_11111111#16 = .instr (.reservedCmd 0xFF#8) := by decide
theorem test_decode_refuses : decode 0b0_0010110_00000001#16 = .notATransaction 0x1601#16 := by decide
theorem test_decodeTableWord : decodeTableWord 16 0x9501 = some .decode ∧ decodeTableWord 16 0x1601 = none := by decide

/-! ### States for the tests -/

/-- A core at rest in a phase. -/
def restIn (p : Phase) : State := { State.reset with phase := p }

/-- A core with a command in flight. -/
def inFlight (c : Command) : State := { State.reset with busy := true, pending := some c }

/-- The §8 capture of V-E2E. -/
def sec8Cap : Vector Byte 20 :=
  #v[0xA6#8, 0x9A#8, 0xA5#8, 0x9A#8, 0x66#8, 0x65#8, 0xA9#8, 0x56#8, 0xA9#8, 0xA5#8,
     0x9A#8, 0xA6#8, 0x55#8, 0x65#8, 0xA6#8, 0x96#8, 0x55#8, 0xA6#8, 0xAA#8, 0xAA#8]

/-- The §8 packet, its parity bits, and its dewhitened bytes. -/
def sec8Pkt : Vector Byte 9 := #v[0x12#8, 0x34#8, 0x56#8, 0x78#8, 0x9A#8, 0x2F#8, 0x64#8, 0xBC#8, 0x00#8]
def sec8Par : Vector Bit 9 := #v[0#1, 1#1, 0#1, 0#1, 0#1, 1#1, 1#1, 1#1, 0#1]
def sec8Dew : Vector Byte 9 := #v[0x9B#8, 0x02#8, 0x0E#8, 0x02#8, 0x06#8, 0x91#8, 0x37#8, 0x34#8, 0xE0#8]

/-- What a property of the next state says of a result; false of a fault or a refusal. -/
def holdsNext (r : Result) (p : State → Bool) : Bool :=
  match r with
  | .next s => p s
  | .fault _ => false
  | .refused _ => false

/-! ### Transactions (95 parts 2.2, 2.3, 2.10) -/

theorem test_rd_status_after_reset : holdsNext (exec (.rd 0x16#7) State.reset) (fun s => s.reads == [0x00#8]) = true := by
  decide
theorem test_rd_par_low :
    holdsNext (exec (.rd 0x49#7) { State.reset with par := sec8Par }) (fun s => s.reads == [0xE2#8]) = true := by decide
theorem test_wr_ctrl_keeps_bit_0 : holdsNext (exec (.wr 0x14#7 0xFF#8) State.reset) (fun s => s.readValue 0x14#7 == 0x01#8) = true := by
  decide
theorem test_wr_cap5 : holdsNext (exec (.wr 0x05#7 0x6A#8) State.reset) (fun s => s.cap[5] == 0x6A#8 && s.cap[4] == 0x00#8) = true := by
  decide
theorem test_nop_in_extracted : holdsNext (exec .nop (restIn .extracted)) (fun s => s.readValue 0x16#7 == 0x28#8) = true := by decide
theorem test_decode_accepted :
    holdsNext (exec .decode { restIn .extracted with cmderr := true, cmdcause := .stepInTerminal })
      (fun s => s.busy && s.pending == some .decode && !s.cmderr && s.phase == .extracted) = true := by decide
theorem test_step_in_extracted :
    holdsNext (exec .step (restIn .extracted)) (fun s => s.readValue 0x16#7 == 0xA8#8 && s.readValue 0x17#7 == 0x20#8) = true := by decide
theorem test_clear_while_busy_dropped :
    holdsNext (exec .clear (inFlight .decode))
      (fun s => s.pending == some .decode && s.cmderr && s.cmdcause == .writeWhileBusy) = true := by decide
theorem test_reserved_after_violation :
    holdsNext (exec (.reservedCmd 0x07#8) { restIn .violation with errkind := .manchester, erridx := 0x05#8 })
      (fun s => s.readValue 0x16#7 == 0xC2#8 && s.readValue 0x17#7 == 0x11#8 && s.readValue 0x18#7 == 0x05#8) = true := by decide
theorem test_reserved_keeps_first_cause :
    holdsNext (exec (.reservedCmd 0xFF#8) { restIn .extracted with cmderr := true, cmdcause := .stepInTerminal })
      (fun s => s.readValue 0x16#7 == 0xA8#8 && s.readValue 0x17#7 == 0x20#8) = true := by decide

/-! ### Stages (95 parts 2.4 to 2.9) -/

theorem test_lineDecode_sec8 :
    decodedBuffer .sameRank sec8Cap =
      #v[0x24#8, 0x34#8, 0xAB#8, 0x1E#8, 0x13#8, 0x42#8, 0xFB#8, 0x26#8, 0xF2#8, 0x00#8, 0x00#8] := by decide
theorem test_lineDecode_last_byte : firstViolation ((Vector.replicate 20 0xAA#8).set 19 0xAB#8) = some 19 := by decide
theorem test_realign_sec8 :
    realigned 1#1 #v[0x24#8, 0x34#8, 0xAB#8, 0x1E#8, 0x13#8, 0x42#8, 0xFB#8, 0x26#8, 0xF2#8, 0x00#8, 0x00#8] =
      #v[0x92#8, 0x1A#8, 0x55#8, 0x8F#8, 0x09#8, 0xA1#8, 0x7D#8, 0x93#8, 0x79#8, 0x00#8, 0x00#8] := by decide
theorem test_unpack_sec8 :
    packetOf #v[0x12#8, 0x1A#8, 0x55#8, 0x8F#8, 0x09#8, 0xA1#8, 0x7D#8, 0x93#8, 0x79#8, 0x00#8, 0x00#8] = sec8Pkt ∧
    parityBitsOf .geometric #v[0x12#8, 0x1A#8, 0x55#8, 0x8F#8, 0x09#8, 0xA1#8, 0x7D#8, 0x93#8, 0x79#8, 0x00#8, 0x00#8] =
      sec8Par := by decide
theorem test_unpack_tap_of_par1 :
    parityBitsOf .geometric ((Vector.replicate 11 0x00#8).set 2 0x40#8) = (Vector.replicate 9 0#1).set 1 1#1 := by decide
theorem test_validate_sec8 : validate sec8Pkt sec8Par = none ∧ validate sec8Pkt (sec8Par.set 2 1#1) = some 2 := by decide
theorem test_validate_byte7 : validate ((Vector.replicate 9 0x00#8).set 7 0x01#8) (Vector.replicate 9 0#1) = some 7 := by decide
theorem test_dewhiten_sec8 : dewhitened sec8Pkt = sec8Dew := by decide
theorem test_dewhiten_wraps :
    dewhitened ((Vector.replicate 9 0x00#8).set 0 0xDC#8) =
      #v[0x55#8, 0x00#8, 0x24#8, 0x24#8, 0x24#8, 0x24#8, 0x24#8, 0x24#8, 0x24#8] := by decide
theorem test_extract_top :
    (let s := extract { State.reset with dew := #v[0#8, 0#8, 0#8, 0#8, 0xFF#8, 0xFF#8, 0xFF#8, 0xFF#8, 0#8] }
     s.serial == 0xFF#8 && s.humidity == 0xFF#8 && s.temp == 0x7FFF#16 && s.tint == 0x0CCC#16 && s.tfrac == 0x07#8) = true := by
  decide

/-! ### Completions (95 parts 2.3, 2.10; V-E2E, P3, P4, P5) -/

theorem test_decode_completes_sec8 :
    holdsNext (complete { inFlight .decode with cap := sec8Cap })
      (fun s => s.readValue 0x16#7 == 0x28#8 && s.serial == 0x06#8 && s.humidity == 0x34#8 && s.temp == 0x1137#16 &&
        s.tint == 0x01B8#16 && s.tfrac == 0x07#8 && s.consumed == 0x14#8) = true := by decide
theorem test_decode_completes_violation :
    holdsNext (complete { inFlight .decode with cap := sec8Cap.set 5 0x00#8 })
      (fun s => s.readValue 0x16#7 == 0x42#8 && s.readValue 0x17#7 == 0x01#8 && s.erridx == 0x05#8 && s.consumed == 0x05#8 &&
        s.dbuf[0] == 0x00#8) = true := by decide
theorem test_decode_completes_polarity :
    holdsNext (complete { inFlight .decode with cap := sec8Cap, pol := 1#1 })
      (fun s => s.readValue 0x16#7 == 0x46#8 && s.erridx == 0x00#8 && s.pkt[0] == 0x92#8 && s.dew[0] == 0x00#8) = true := by decide
theorem test_decode_completes_bad_parity :
    holdsNext (complete { inFlight .decode with cap := sec8Cap.set 6 0x99#8, cmderr := true, cmdcause := .writeWhileBusy })
      (fun s => s.readValue 0x16#7 == 0xC6#8 && s.readValue 0x17#7 == 0x32#8 && s.erridx == 0x02#8 &&
        s.readValue 0x49#7 == 0xE6#8) = true := by decide
theorem test_step_completes_idle :
    holdsNext (complete { inFlight .step with cap := sec8Cap })
      (fun s => s.readValue 0x16#7 == 0x03#8 && s.dbuf[0] == 0x12#8 && s.dbuf[8] == 0x79#8) = true := by decide
theorem test_clear_completes_keeps_cap :
    holdsNext (complete { inFlight .clear with phase := .violation, cap := sec8Cap, consumed := 0x05#8 })
      (fun s => s.readValue 0x16#7 == 0x00#8 && s.consumed == 0x00#8 && s.cap == sec8Cap) = true := by decide
theorem test_step_in_terminal_faults :
    (match complete { inFlight .step with phase := .extracted } with
      | .fault f => f == .unreachableTransition .extracted
      | .next _ => false
      | .refused _ => false) = true := by decide

/-- Under the rejected reading of 90_conflicts.md C1 the §8 packet would fail at byte 1. -/
theorem test_literal_tap_fails_sec8 :
    validate sec8Pkt (parityBitsOf .literal
      #v[0x12#8, 0x1A#8, 0x55#8, 0x8F#8, 0x09#8, 0xA1#8, 0x7D#8, 0x93#8, 0x79#8, 0x00#8, 0x00#8]) = some 1 := by decide

/-! ### The step and the port -/

theorem test_step_runs_placed_word :
    holdsNext (step (State.reset.withFetchWord 16 0x9401)) (fun s => s.pol == 1#1 && s.events == []) = true := by decide
theorem test_step_resets_in_flight :
    holdsNext (step { inFlight .decode with events := [.rst, .completion] })
      (fun s => !s.busy && s.pending == none && s.events == [.completion]) = true := by decide
theorem test_timed_step_completes_at_bound :
    holdsNext (stepTimed 2 { inFlight .clear with events := [.txn 0x1600#16], busyTxns := 2 })
      (fun s => !s.busy && s.events == [.txn 0x1600#16]) = true := by decide

/-! ### Host programs (R91, R92; 95 part 3) -/

theorem test_line_wr : lineOfText "WR CAP5, 0x6A ; store" = some (.wr 0x05#7 0x6A#8) := by decide
theorem test_line_rd : lineOfText "RD TEMP_L -> tl" = some (.rd 0x1C#7 (some "tl".toList)) := by decide
theorem test_line_offset : lineOfText "WR @0x7F, 0b00000011" = some (.wr 0x7F#7 0x03#8) := by decide
theorem test_line_cmd : (lineOfText "CMD DECODE").map (Line.words 1) = some [0x9501#16] := by decide
theorem test_line_run : (lineOfText "RUN").map (Line.words 2) = some [0x9501#16, 0x1600#16, 0x1600#16] := by decide
theorem test_line_refuses : lineOfText "RD CAP20" = none ∧ lineOfText "WR CTRL 0x01" = none := by decide
theorem test_loadcap_first_words : (loadFrom 0 sec8Cap.toList).take 3 = [0x80A6#16, 0x819A#16, 0x82A5#16] := by decide
theorem test_rdtemp : rdtempValue 0x37#8 0x11#8 = 4407 := by decide

/-! ### Witnesses: states and operands that meet each statement's hypotheses -/

theorem witness_DecodeOfEncode : (Instr.wr 0x14#7 0x00#8).wf = true ∧ (Instr.wr 0x16#7 0xFF#8).wf = true ∧
    (Instr.reservedCmd 0x04#8).wf = true ∧ (Instr.reservedCmd 0xFF#8).wf = true := by decide

theorem witness_DecodeFollowsFiveCases : 4 ≤ (0x04#8).toNat ∧ 4 ≤ (0xFF#8).toNat ∧ (0x14#7 : Offset) ≠ 0x15#7 ∧
    (0x16#7 : Offset) ≠ 0x15#7 ∧ (0x01#8 : Byte) ≠ 0x00#8 := by decide

/-- A core with a read presented, at rest and with a command in flight. -/
theorem witness_StepRunsPresentedTransaction :
    ({ State.reset with events := [.txn 0x1600#16] } : State).events = [.txn 0x1600#16] ∧
    decode 0x1600#16 = .instr (.rd 0x16#7) ∧ decodeTableWord 16 0x1600 = some (.rd 0x16#7) := by decide

theorem witness_StepRefusesReadWithData :
    (0x01#8 : Byte) ≠ 0x00#8 ∧
    ({ State.reset with events := [.txn 0x1601#16] } : State).events = [.txn (txnWord 0#1 0x16#7 0x01#8)] := by decide

theorem witness_CompletionFiresWhileBusy :
    ({ inFlight .clear with events := [.completion] } : State).events = [.completion] ∧
    ({ inFlight .clear with events := [.completion] } : State).busy = true ∧
    ({ State.reset with events := [.completion] } : State).busy = false ∧ (inFlight .clear).events = [] ∧
    (inFlight .clear).pending = some .clear ∧
    commandEffect .clear (inFlight .clear) = .next (inFlight .clear).clearCall := by
  refine ⟨rfl, rfl, rfl, rfl, rfl, rfl⟩

theorem witness_IdleCoreTakesNoStep : State.reset.events = [] ∧ State.reset.busy = false := by decide

theorem witness_ResetEventResetsCore : ({ inFlight .decode with events := [.rst] } : State).events = [.rst] := by decide

/-- BUSY = 0: the hypothesis of ReadAtRest, WriteStores, WriteFrameOfWindow, NopDoesNothing, DecodeAndClearAccepted. -/
theorem witness_atRest : State.reset.busy = false ∧ (restIn .extracted).busy = false ∧ (0x14#7 : Offset) ≠ 0x15#7 ∧
    0x16 ≤ (0x16#7 : Offset).toNat ∧ 0x16 ≤ (0x7F#7 : Offset).toNat ∧ (0x00#7 : Offset) ≠ 0x01#7 := by decide

/-- The first and last offset of each range of the map, and their neighbours (R26). -/
theorem witness_RegisterMapReads :
    regAt 0x13#7 = .cap 19 ∧ regAt 0x14#7 = .ctrl ∧ regAt 0x15#7 = .cmd ∧ regAt 0x20#7 = .tfrac ∧
    regAt 0x21#7 = .unassigned ∧ regAt 0x2F#7 = .unassigned ∧ regAt 0x30#7 = .dbuf 0 ∧ regAt 0x3A#7 = .dbuf 10 ∧
    regAt 0x3B#7 = .unassigned ∧ regAt 0x3F#7 = .unassigned ∧ regAt 0x40#7 = .pkt 0 ∧ regAt 0x48#7 = .pkt 8 ∧
    regAt 0x49#7 = .parL ∧ regAt 0x4A#7 = .parH ∧ regAt 0x4B#7 = .unassigned ∧ regAt 0x4F#7 = .unassigned ∧
    regAt 0x50#7 = .dew 0 ∧ regAt 0x58#7 = .dew 8 ∧ regAt 0x59#7 = .unassigned ∧ regAt 0x7F#7 = .unassigned := by decide

/-- BUSY = 1, and the first and last offset of each range of DRAW_SET and outside it (R112). -/
theorem witness_ReadWhileBusyIsDraw :
    (inFlight .decode).busy = true ∧
    [0x17#7, 0x20#7, 0x30#7, 0x3A#7, 0x40#7, 0x4A#7, 0x50#7, 0x58#7].all inDrawSet = true ∧
    [0x00#7, 0x15#7, 0x16#7, 0x21#7, 0x2F#7, 0x3B#7, 0x3F#7, 0x4B#7, 0x4F#7, 0x59#7, 0x7F#7].any inDrawSet = false := by decide

theorem witness_ReadsChangeNoRegister :
    State.reset.busy = false ∧ readsAsDraw 0x13#7 = false ∧ readsAsDraw 0x15#7 = false ∧ readsAsDraw 0x16#7 = true := by decide

theorem witness_CommandFrame :
    Instr.nop.isCommand = true ∧ Instr.decode.isCommand = true ∧ Instr.step.isCommand = true ∧ Instr.clear.isCommand = true ∧
    (Instr.reservedCmd 0x04#8).isCommand = true ∧ (Instr.wr 0x15#7 0x01#8).isCommand = true ∧
    (0x15#7 : Offset) ≠ 0x16#7 ∧ (0x18#7 : Offset) ≠ 0x17#7 := by decide

theorem witness_WriteWhileBusyDropped :
    (inFlight .step).busy = true ∧ (Instr.wr 0x00#7 0x55#8).isWrite = true ∧ Instr.clear.isWrite = true := by decide

theorem witness_StepAccepted :
    State.reset.busy = false ∧ State.reset.phase ≠ .violation ∧ State.reset.phase ≠ .parityFailure ∧
    State.reset.phase ≠ .extracted := by decide

theorem witness_StepInTerminalRaisesCommandError :
    (restIn .violation).busy = false ∧ (restIn .violation).phase = .violation ∧
    (restIn .parityFailure).phase = .parityFailure ∧ (restIn .extracted).phase = .extracted := by decide

theorem witness_ReservedCommandRaisesCommandError :
    State.reset.busy = false ∧ 4 ≤ (0x04#8).toNat ∧ 4 ≤ (0xFF#8).toNat := by decide

theorem witness_CommandErrorEntryAndExit :
    (restIn .violation).busy = false ∧ (Instr.decode = .decode ∨ Instr.decode = .clear) := by decide

theorem witness_FirstCauseKept :
    ∃ t, exec .step { restIn .extracted with cmderr := true, cmdcause := .reservedOpcode } = .next t ∧ t.cmderr = true :=
  ⟨_, rfl, rfl⟩

theorem witness_TransactionsMoveNoCall : ∃ t, exec .decode (restIn .extracted) = .next t := ⟨_, rfl⟩

theorem witness_CaptureChangedOnlyByHost :
    ∃ t, step { State.reset with events := [.txn 0x8055#16] } = .next t ∧ t.cap ≠ State.reset.cap :=
  ⟨_, rfl, by decide⟩

theorem witness_BusySetOnlyByAcceptance :
    ∃ t, step { State.reset with events := [.txn 0x9502#16] } = .next t ∧ State.reset.busy = false ∧ t.busy = true :=
  ⟨_, rfl, rfl, rfl⟩

theorem witness_CommandErrorClearedOnlyBy :
    ∃ t, step { State.reset with cmderr := true, cmdcause := .reservedOpcode, events := [.txn 0x9503#16] } = .next t ∧
      t.cmderr = false :=
  ⟨_, rfl, rfl⟩

theorem witness_TerminalPhaseLeftOnlyBy :
    ∃ t, step { inFlight .clear with phase := .violation } = .next t ∧ Phase.violation.isTerminal = true ∧
      t.phase ≠ .violation :=
  ⟨_, rfl, rfl, by decide⟩

/-- The first and the last violating index, and a clean capture. -/
theorem witness_LineDecode :
    byteViolates ((Vector.replicate 20 0xAA#8).set 19 0xAB#8)[19] = true ∧
    (∀ j : Fin 20, j < 19 → byteViolates ((Vector.replicate 20 0xAA#8).set 19 0xAB#8)[j] = false) ∧
    byteViolates (Vector.replicate 20 0x00#8)[0] = true ∧
    (∀ k : Fin 20, byteViolates sec8Cap[k] = false) := by decide

theorem witness_ValidSymbolsDecodeToChosenBytes :
    captureOf #v[0x24#8, 0x34#8, 0xAB#8, 0x1E#8, 0x13#8, 0x42#8, 0xFB#8, 0x26#8, 0xF2#8, 0x00#8] = sec8Cap := by decide

theorem witness_UnpackWindows : 1 ≤ (1 : Fin 9).val ∧ (1 : Fin 9).val ≤ 7 ∧ 1 ≤ (7 : Fin 9).val ∧ (7 : Fin 9).val ≤ 7 := by
  decide

theorem witness_UnusedBitsReachNothing :
    (∀ i : Fin 10, (Vector.replicate 11 0x00#8)[i.val] = ((Vector.replicate 11 0x00#8).set 10 0x7F#8)[i.val]) ∧
    (Vector.replicate 11 0x00#8)[10].getLsbD 7 = ((Vector.replicate 11 0x00#8).set 10 0x7F#8)[10].getLsbD 7 := by decide

theorem witness_ValidateReportsLowestMismatch :
    validate ((Vector.replicate 9 0x00#8).set 0 0x01#8) (Vector.replicate 9 0#1) = some 0 ∧
    validate ((Vector.replicate 9 0x00#8).set 8 0x01#8) (Vector.replicate 9 0#1) = none := by decide

theorem witness_SingleFlipFailsDoubleFlipPasses : validate sec8Pkt sec8Par = none ∧ (0 : Fin 8) ≠ 7 := by decide

theorem witness_StepFromIdleCompletes :
    ({ inFlight .step with cap := sec8Cap } : State).pending = some .step ∧
    ({ inFlight .step with cap := sec8Cap } : State).phase = .idle ∧
    byteViolates (inFlight .step).cap[0] = true := by decide

theorem witness_StepFromLaterPhasesCompletes :
    ({ inFlight .step with phase := .realigned } : State).phase = .realigned ∧
    ({ inFlight .step with phase := .dewhitened } : State).pending = some .step ∧
    (∀ i : Fin 8, parity8 sec8Pkt[i.val] = sec8Par[i.val]) ∧
    parity8 sec8Pkt[7] ≠ (sec8Par.set 7 0#1)[7] ∧
    (∀ j : Fin 8, j < 7 → parity8 sec8Pkt[j.val] = (sec8Par.set 7 0#1)[j.val]) := by decide

theorem witness_ClearCompletes : (inFlight .clear).pending = some .clear := by decide

theorem witness_DecodeRunsTransitionsToTerminal : (inFlight .decode).pending = some .decode := by decide

theorem witness_DecodeDependsOnCaptureAlone :
    ({ inFlight .decode with serial := 0x55#8, phase := .extracted } : State).pending = some .decode ∧
    ({ inFlight .decode with serial := 0x55#8, phase := .extracted } : State).cap = (inFlight .decode).cap ∧
    ({ inFlight .decode with serial := 0x55#8, phase := .extracted } : State).pol = (inFlight .decode).pol := by decide

theorem witness_DecodeOfViolatingCapture :
    (inFlight .decode).pending = some .decode ∧ byteViolates (inFlight .decode).cap[0] = true := by decide

/-- The §8 capture is what the transmitter's side makes of the §8 bytes. -/
theorem witness_DecodeOfTransmittedFrame :
    whitened sec8Dew = sec8Pkt ∧ parityFor sec8Pkt 0#1 = sec8Par ∧ captureOfPacket sec8Pkt sec8Par = sec8Cap ∧
    polarityOfPacket sec8Pkt = 0#1 := by decide

/-- P5: the §8 packet with PAR[2] inverted. -/
theorem witness_DecodeOfFrameWithBadParity :
    captureOfPacket sec8Pkt (sec8Par.set 2 1#1) = sec8Cap.set 6 0x99#8 ∧
    parity8 sec8Pkt[2] ≠ (sec8Par.set 2 1#1)[2] ∧
    (∀ j : Fin 8, j < 2 → parity8 sec8Pkt[j.val] = (sec8Par.set 2 1#1)[j.val]) := by decide

/-- A consistent state with a command in flight and a transaction still to come. -/
def busyConsistent : State := { inFlight .clear with cmderr := true, cmdcause := .writeWhileBusy, events := [.txn 0x1600#16] }

theorem witness_Consistent : busyConsistent.Consistent ∧ busyConsistent.busy = true ∧ busyConsistent.wordsDecode := by
  refine ⟨⟨rfl, by decide, by decide, ⟨rfl, rfl, rfl⟩, ⟨rfl, ⟨rfl, rfl⟩, rfl, ⟨rfl, rfl, rfl, rfl, rfl⟩⟩, by decide⟩, rfl, ?_⟩
  intro w hw
  simp only [busyConsistent, List.mem_singleton, Event.txn.injEq] at hw
  exact ⟨.rd 0x16#7, by subst hw; decide⟩

/-- No reset is to come, the second clause of CommandEventuallyCompletes. -/
theorem witness_CommandEventuallyCompletes : Event.rst ∉ busyConsistent.events := by decide

theorem witness_StepKeepsConsistency : ∃ t, step busyConsistent = .next t := ⟨_, rfl⟩

/-- A consistent state at rest in the phase after a violation at the last capture byte. -/
theorem witness_ConsistentStateReadings :
    ({ restIn .violation with errkind := .manchester, erridx := 19#8, consumed := 19#8 } : State).Consistent :=
  ⟨rfl, by decide, by decide, ⟨rfl, by decide, rfl⟩, ⟨rfl, ⟨rfl, rfl⟩, rfl, ⟨rfl, rfl, rfl, rfl, rfl⟩⟩, by decide⟩

theorem witness_TimedStepKeepsBound :
    State.withinTCmd 1 busyConsistent ∧ ∃ t, stepTimed 1 busyConsistent = .next t :=
  ⟨fun _ => by decide, _, rfl⟩

end Sys2Proof.Tests
end

/-! # Proofs: the stages over the frame stream (R13) -/

namespace Sys2Proof.Machine

/-! ### Bits of bytes and of the stream (R8, R13) -/

theorem bit_eq_of_getLsbD_zero {a b : Bit} (h : a.getLsbD 0 = b.getLsbD 0) : a = b := by
  apply BitVec.eq_of_getLsbD_eq
  intro i hi
  obtain rfl : i = 0 := by omega
  exact h

theorem bitAt_eq_ofBool (b : Byte) (j : Nat) : bitAt b j = BitVec.ofBool (b.getLsbD j) :=
  bit_eq_of_getLsbD_zero (by simp [bitAt])

/-- Two bytes agree when their bits, most significant first, do. -/
theorem byte_eq_of_bitAt {a b : Byte} (h : ∀ k < 8, bitAt a (7 - k) = bitAt b (7 - k)) : a = b := by
  apply BitVec.eq_of_getLsbD_eq
  intro j hj
  have hbit := h (7 - j) (by omega)
  rw [show 7 - (7 - j) = j by omega, bitAt_eq_ofBool, bitAt_eq_ofBool] at hbit
  simpa using congrArg (BitVec.getLsbD · 0) hbit

theorem streamBit_of_eq (r : Vector Byte 11) {b : Fin 81} {m k : Nat} (hb : b.val = 8 * m + k) (hk : k < 8) :
    streamBit r b = bitAt (r[m]'(by omega)) (7 - k) := by
  simp only [streamBit, hb, show (8 * m + k) / 8 = m by omega, show (8 * m + k) % 8 = k by omega]

/-! ### The unpacker reads nine-bit groups of the stream (R13, R190) -/

/-- The window of packet byte i in bytes i and i+1: the first 8-i bits come from byte i, the others from byte i+1. -/
theorem bitAt_window (a b : Byte) {i k : Nat} (hi : 1 ≤ i) (hi' : i ≤ 7) (hk : k < 8) :
    bitAt ((a <<< i) ||| (b >>> (8 - i))) (7 - k) =
      if i + k < 8 then bitAt a (7 - (i + k)) else bitAt b (7 - (i + k - 8)) := by
  simp only [bitAt_eq_ofBool, BitVec.getLsbD_or, BitVec.getLsbD_shiftLeft, BitVec.getLsbD_ushiftRight]
  split
  · rw [BitVec.getLsbD_of_ge b _ (by omega)]
    simp [show 7 - k < 8 by omega, show ¬ 7 - k < i by omega, show 7 - k - i = 7 - (i + k) by omega]
  · simp [show 7 - k < i by omega, show 8 - i + (7 - k) = 7 - (i + k - 8) by omega]

theorem bitAt_packetByte (r : Vector Byte 11) (i : Fin 9) {k : Nat} (hk : k < 8) :
    bitAt (packetByte r i) (7 - k) = streamBit r ⟨9 * i.val + k, by omega⟩ := by
  unfold packetByte
  split
  case isTrue h0 => exact (streamBit_of_eq r (m := 0) (by simp [h0]) hk).symm
  split
  case isTrue h8 => exact (streamBit_of_eq r (m := 9) (by simp [h8]) hk).symm
  case isFalse h0 h8 =>
    rw [bitAt_window _ _ (by omega) (by omega) hk]
    split
    · exact (streamBit_of_eq r (m := i.val) (k := i.val + k) (by simp; omega) (by omega)).symm
    · exact (streamBit_of_eq r (m := i.val + 1) (k := i.val + k - 8) (by simp; omega) (by omega)).symm

theorem parityBit_eq_streamBit (r : Vector Byte 11) (i : Fin 9) :
    parityBit .geometric r i = streamBit r ⟨9 * i.val + 8, by omega⟩ := by
  unfold parityBit
  split
  case isTrue h8 => exact (streamBit_of_eq r (m := 10) (k := 0) (by simp [h8]) (by omega)).symm
  case isFalse h8 => exact (streamBit_of_eq r (m := i.val + 1) (k := i.val) (by simp; omega) (by omega)).symm

/-- Settles O39: each window, and each parity tap, is a run of stream bits. -/
theorem packetIsFrameStream : Obligations.PacketIsFrameStream := by
  unfold Obligations.PacketIsFrameStream
  intro r i
  refine ⟨fun k => ?_, ?_⟩
  · simpa [packetOf, bitAt] using bitAt_packetByte r i k.isLt
  · simpa [parityBitsOf] using parityBit_eq_streamBit r i

/-! ### The realigner puts the polarity flag before the decoded bits (R180, R183) -/

theorem bitAt_shiftIn_of_lt (top : Bit) (b : Byte) {j : Nat} (hj : j < 7) :
    bitAt (shiftIn top b) j = bitAt b (j + 1) := by
  simp [bitAt_eq_ofBool, shiftIn, hj, Nat.add_comm]

theorem bitAt_shiftIn_seven (top : Bit) (b : Byte) : bitAt (shiftIn top b) 7 = top :=
  bit_eq_of_getLsbD_zero (by simp [bitAt, shiftIn])

/-- The loop leaves byte 0 and the bytes above its start as they are. -/
theorem getElem_realignLoop_of_outside (n : Nat) (d : Vector Byte 11) {j : Nat} (hj : j < 11) (h : j = 0 ∨ n < j) :
    (realignLoop n d)[j] = d[j] := by
  induction n generalizing d with
  | zero => rfl
  | succ n ih =>
    rw [realignLoop, ih _ (by omega)]
    split
    · exact Vector.getElem_set_ne _ _ (by omega)
    · rfl

/-- The loop runs from the top, so each byte takes its new bit from a byte that it has not shifted yet. -/
theorem getElem_realignLoop_succ (n : Nat) (d : Vector Byte 11) {j : Nat} (hj : j + 1 < 11) (h : j < n) :
    (realignLoop n d)[j + 1] = shiftIn (bitAt d[j] 0) d[j + 1] := by
  induction n generalizing d with
  | zero => omega
  | succ n ih =>
    rw [realignLoop]
    split
    case isFalse hn => exact ih d (by omega)
    case isTrue hn =>
      by_cases hjn : j = n
      · subst hjn
        rw [getElem_realignLoop_of_outside j _ hj (by omega), Vector.getElem_set_self]
      · rw [ih _ (by omega), Vector.getElem_set_ne _ _ (by omega), Vector.getElem_set_ne _ _ (by omega)]

theorem getElem_realigned_zero (pol : Bit) (d : Vector Byte 11) : (realigned pol d)[0] = shiftIn pol d[0] := by
  simp [realigned, getElem_realignLoop_of_outside]

theorem getElem_realigned_succ (pol : Bit) (d : Vector Byte 11) {j : Nat} (hj : j + 1 < 11) :
    (realigned pol d)[j + 1] = shiftIn (bitAt d[j] 0) d[j + 1] := by
  rw [realigned, Vector.getElem_set_ne _ _ (by omega), getElem_realignLoop_succ 10 d hj (by omega)]

theorem streamBit_realigned_zero (pol : Bit) (d : Vector Byte 11) : streamBit (realigned pol d) 0 = pol := by
  rw [streamBit_of_eq _ (m := 0) (k := 0) rfl (by omega), getElem_realigned_zero, bitAt_shiftIn_seven]

/-- Bit k of decoded byte m, most significant first, is stream bit 8m+k+1: the flag has taken bit 0. -/
theorem streamBit_realigned_succ (pol : Bit) (d : Vector Byte 11) {b : Fin 81} {m k : Nat}
    (hb : b.val = 8 * m + k + 1) (hk : k < 8) :
    streamBit (realigned pol d) b = bitAt (d[m]'(by omega)) (7 - k) := by
  by_cases h7 : k = 7
  · subst h7
    rw [streamBit_of_eq _ (m := m + 1) (k := 0) (by omega) (by omega), getElem_realigned_succ, bitAt_shiftIn_seven]
  · have hbyte : ∃ top, (realigned pol d)[m]'(by omega) = shiftIn top (d[m]'(by omega)) := by
      cases m with
      | zero => exact ⟨_, getElem_realigned_zero pol d⟩
      | succ m => exact ⟨_, getElem_realigned_succ pol d (by omega)⟩
    obtain ⟨top, htop⟩ := hbyte
    rw [streamBit_of_eq _ (m := m) (k := k + 1) (by omega) (by omega), htop, bitAt_shiftIn_of_lt _ _ (by omega),
      show 7 - (k + 1) + 1 = 7 - k by omega]

/-! ### The line decoder undoes the symbol coding (R87, R88, R160) -/

theorem byteViolates_captureByte : ∀ n : BitVec 4, byteViolates (captureByte n) = false := by decide

theorem nibbleOf_captureByte : ∀ n : BitVec 4, nibbleOf .sameRank (captureByte n) = n := by decide

theorem firstViolationFrom_eq_none {k : Nat} {bs : List Byte} (h : ∀ b ∈ bs, byteViolates b = false) :
    firstViolationFrom k bs = none := by
  induction bs generalizing k with
  | nil => rfl
  | cons b bs ih =>
    obtain ⟨hb, hbs⟩ := List.forall_mem_cons.mp h
    simp [firstViolationFrom, hb, ih hbs]

theorem firstViolation_captureOf (d : Vector Byte 10) : firstViolation (captureOf d) = none := by
  refine firstViolationFrom_eq_none fun b hb => ?_
  obtain ⟨i, -, rfl⟩ := Vector.mem_iff_getElem.mp (Vector.mem_toList_iff.mp hb)
  simp [captureOf, byteViolates_captureByte]

theorem decodedByte_captureOf (d : Vector Byte 10) (m : Fin 10) : decodedByte .sameRank (captureOf d) m = d[m] := by
  have hm : (2 * m.val + 1) / 2 = m.val := by omega
  simp only [decodedByte, captureOf, Vector.getElem_ofFn, nibbleOf_captureByte]
  simp [hm, BitVec.extractLsb'_append_extractLsb'_eq_extractLsb' (show 4 = 0 + 4 from rfl)]

/-! ### The frame (R13) -/

theorem frameBit_packet (pkt : Vector Byte 9) (par : Vector Bit 9) {b : Fin 81} {i k : Nat} (hb : b.val = 9 * i + k)
    (hk : k < 8) : frameBit pkt par b = bitAt (pkt[i]'(by omega)) (7 - k) := by
  simp only [frameBit, hb, show (9 * i + k) / 9 = i by omega, show (9 * i + k) % 9 = k by omega,
    show k ≠ 8 by omega, if_false]

theorem frameBit_parity (pkt : Vector Byte 9) (par : Vector Bit 9) {b : Fin 81} {i : Nat} (hb : b.val = 9 * i + 8) :
    frameBit pkt par b = par[i]'(by omega) := by
  simp only [frameBit, hb, show (9 * i + 8) / 9 = i by omega, show (9 * i + 8) % 9 = 8 by omega, if_true]

theorem bitAt_byteOfBits (f : Nat → Bit) {k : Nat} (hk : k < 8) : bitAt (byteOfBits f) (7 - k) = f k := by
  apply bit_eq_of_getLsbD_zero
  simp only [bitAt, BitVec.getLsbD_extractLsb', byteOfBits, BitVec.getLsbD_append]
  interval_cases k <;> simp

theorem bitAt_framedByte (pkt : Vector Byte 9) (par : Vector Bit 9) (m : Fin 10) {k : Nat} (hk : k < 8) :
    bitAt (framedByte pkt par m) (7 - k) = frameBit pkt par ⟨8 * m.val + k + 1, by omega⟩ := by
  rw [framedByte, bitAt_byteOfBits _ hk, dif_pos]

/-! ### What a capture receives (R160, R180) -/

/-- DBUF once a capture without violations is decoded and realigned: the received stream (R13). -/
def receivedBuffer (pol : Bit) (cap : Vector Byte 20) : Vector Byte 11 := realigned pol (decodedBuffer .sameRank cap)

theorem streamBit_receivedBuffer_zero (pol : Bit) (cap : Vector Byte 20) : streamBit (receivedBuffer pol cap) 0 = pol :=
  streamBit_realigned_zero _ _

theorem streamBit_receivedBuffer_succ (pol : Bit) (cap : Vector Byte 20) (m : Fin 10) {b : Fin 81} {k : Nat}
    (hb : b.val = 8 * m.val + k + 1) (hk : k < 8) :
    streamBit (receivedBuffer pol cap) b = bitAt (decodedByte .sameRank cap m) (7 - k) := by
  rw [receivedBuffer, streamBit_realigned_succ _ _ hb hk]
  simp [decodedBuffer]

/-- The receiver's stream is the transmitter's frame, bit for bit. -/
theorem streamBit_of_transmittedFrame (pkt : Vector Byte 9) (par : Vector Bit 9) (b : Fin 81) :
    streamBit (receivedBuffer (polarityOfPacket pkt) (captureOfPacket pkt par)) b = frameBit pkt par b := by
  by_cases h0 : b = 0
  · subst h0
    rw [streamBit_receivedBuffer_zero, frameBit_packet pkt par (i := 0) (k := 0) rfl (by omega), polarityOfPacket]
  · have hpos : b.val ≠ 0 := fun h => h0 (Fin.ext h)
    obtain ⟨m, k, hk, hb⟩ : ∃ (m : Fin 10) (k : Nat), k < 8 ∧ b.val = 8 * m.val + k + 1 :=
      ⟨⟨(b.val - 1) / 8, by omega⟩, (b.val - 1) % 8, by omega, by dsimp only; omega⟩
    rw [streamBit_receivedBuffer_succ _ _ m hb hk, captureOfPacket, decodedByte_captureOf, Fin.getElem_fin,
      Vector.getElem_ofFn, bitAt_framedByte _ _ _ hk]
    simp only [← hb]

theorem packetOf_transmittedFrame (pkt : Vector Byte 9) (par : Vector Bit 9) :
    packetOf (receivedBuffer (polarityOfPacket pkt) (captureOfPacket pkt par)) = pkt := by
  ext i hi : 1
  refine byte_eq_of_bitAt fun k hk => ?_
  rw [packetOf, Vector.getElem_ofFn, bitAt_packetByte _ _ hk, streamBit_of_transmittedFrame,
    frameBit_packet pkt par rfl hk]

theorem parityBitsOf_transmittedFrame (pkt : Vector Byte 9) (par : Vector Bit 9) :
    parityBitsOf .geometric (receivedBuffer (polarityOfPacket pkt) (captureOfPacket pkt par)) = par := by
  ext i hi : 1
  rw [parityBitsOf, Vector.getElem_ofFn, parityBit_eq_streamBit, streamBit_of_transmittedFrame,
    frameBit_parity pkt par rfl]

/-! ### Validation and whitening (R210, R211, R222) -/

theorem validate_eq_none {pkt : Vector Byte 9} {par : Vector Bit 9}
    (h : ∀ i : Fin 8, parity8 pkt[i.val] = par[i.val]) : validate pkt par = none := by
  refine List.find?_eq_none.mpr fun i hi => ?_
  have hlt : i.val < 8 := by revert i; decide
  simpa [parityMismatch] using h ⟨i.val, hlt⟩

theorem checkedBytes_getElem {j : Nat} (hj : j < checkedBytes.length) :
    checkedBytes[j] = ⟨j, Nat.lt_of_lt_of_le hj (by decide)⟩ := by
  revert j
  decide

theorem validate_eq_some_of_first {pkt : Vector Byte 9} {par : Vector Bit 9} (i : Fin 8)
    (hi : parity8 pkt[i.val] ≠ par[i.val]) (hbelow : ∀ j : Fin 8, j < i → parity8 pkt[j.val] = par[j.val]) :
    validate pkt par = some ⟨i.val, by omega⟩ := by
  have hlen : i.val < checkedBytes.length := i.isLt
  refine List.find?_eq_some_iff_getElem.mpr
    ⟨by simpa [parityMismatch] using hi, i.val, hlen, checkedBytes_getElem hlen, fun j hj => ?_⟩
  rw [checkedBytes_getElem]
  simpa [parityMismatch] using hbelow ⟨j, by omega⟩ hj

theorem validate_parityFor (pkt : Vector Byte 9) (par8 : Bit) : validate pkt (parityFor pkt par8) = none := by
  refine validate_eq_none fun i => ?_
  simp [parityFor, show i.val ≠ 8 by omega]

theorem dewhitened_whitened (dew : Vector Byte 9) : dewhitened (whitened dew) = dew := by
  ext i hi : 1
  cases i with
  | zero => simp [dewhitened, dewhitenedByte, whitened, whitenedByte]
  | succ i => simp [dewhitened, dewhitenedByte, whitened, whitenedByte]

end Sys2Proof.Machine

/-! # Proofs: a DECODE call as a whole (R135) -/

namespace Sys2Proof.Machine

/-! ### The completion of a DECODE, written out (R135) -/

/-- The state of a call that has unpacked its packet: a function of CAP and POL in the call's elements. -/
def State.unpackedCall (s : State) : State :=
  { s.clearCall with
    dbuf := receivedBuffer s.pol s.cap
    consumed := 20#8
    pkt := packetOf (receivedBuffer s.pol s.cap)
    par := parityBitsOf .geometric (receivedBuffer s.pol s.cap)
    phase := .unpacked }

/-- The state of a call that has passed validation and has its Reading (R143, R144). -/
def State.extractedCall (s : State) : State :=
  transitionDewhitened { s.unpackedCall with dew := dewhitened s.unpackedCall.pkt, phase := .dewhitened }

theorem readingOfDew_extractedCall (s : State) : s.extractedCall.readingOfDew := ⟨rfl, rfl, rfl, rfl, rfl⟩

theorem complete_decode {s t : State} (hp : s.pending = some .decode)
    (h : runCall Config.maxTransitions s.clearCall = .next t) : complete s = .next t.finish := by
  simp [complete, hp, commandEffect, h]

theorem complete_decode_of_violation {s : State} {k : Nat} (hp : s.pending = some .decode)
    (hv : firstViolation s.cap = some k) :
    complete s = .next (State.finish { s.clearCall with
      consumed := BitVec.ofNat 8 k, errkind := .manchester, erridx := BitVec.ofNat 8 k, phase := .violation }) := by
  refine complete_decode hp ?_
  rw [Config.maxTransitions, runCall_of_transition 3 rfl (t := transitionIdle s.clearCall) rfl,
    transitionIdle_of_violation (s := s.clearCall) hv, runCall_of_terminal _ rfl]

theorem runCall_of_clean {s : State} (hv : firstViolation s.cap = none) :
    runCall Config.maxTransitions s.clearCall = runCall 2 s.unpackedCall := by
  rw [Config.maxTransitions, runCall_of_transition 3 rfl (t := transitionIdle s.clearCall) rfl,
    transitionIdle_of_clean (s := s.clearCall) hv, runCall_of_transition 2 rfl rfl]
  rfl

theorem complete_decode_of_mismatch {s : State} {i : Fin 9} (hp : s.pending = some .decode)
    (hv : firstViolation s.cap = none) (hm : validate s.unpackedCall.pkt s.unpackedCall.par = some i) :
    complete s = .next (State.finish { s.unpackedCall with
      errkind := .parity, erridx := BitVec.ofNat 8 i.val, phase := .parityFailure }) := by
  refine complete_decode hp ?_
  rw [runCall_of_clean hv, runCall_of_transition 1 rfl (t := transitionUnpacked s.unpackedCall) rfl,
    transitionUnpacked_of_mismatch hm, runCall_of_terminal _ rfl]

theorem complete_decode_of_pass {s : State} (hp : s.pending = some .decode) (hv : firstViolation s.cap = none)
    (hm : validate s.unpackedCall.pkt s.unpackedCall.par = none) :
    complete s = .next s.extractedCall.finish := by
  refine complete_decode hp ?_
  rw [runCall_of_clean hv, runCall_of_transition 1 rfl (t := transitionUnpacked s.unpackedCall) rfl,
    transitionUnpacked_of_pass hm, runCall_of_transition 0 rfl rfl]
  exact runCall_of_terminal 0 rfl

/-! ### A call sees CAP and POL alone (R11, R135, R138) -/

/-- Settles O49: each of the three ways a call can end is a function of CAP and POL. -/
theorem decodeDependsOnCaptureAlone : Obligations.DecodeDependsOnCaptureAlone := by
  unfold Obligations.DecodeDependsOnCaptureAlone
  intro s s' hp hp' hcap hpol
  have hv' : firstViolation s'.cap = firstViolation s.cap := by rw [hcap]
  cases hv : firstViolation s.cap with
  | some k =>
    refine ⟨_, complete_decode_of_violation hp hv, ?_⟩
    rw [complete_decode_of_violation hp' (hv'.trans hv)]
    simp [State.finish, State.clearCall, hcap, hpol]
  | none =>
    have hm' : validate s'.unpackedCall.pkt s'.unpackedCall.par = validate s.unpackedCall.pkt s.unpackedCall.par := by
      simp only [State.unpackedCall, hcap, hpol]
    cases hm : validate s.unpackedCall.pkt s.unpackedCall.par with
    | some i =>
      refine ⟨_, complete_decode_of_mismatch hp hv hm, ?_⟩
      rw [complete_decode_of_mismatch hp' (hv'.trans hv) (hm'.trans hm)]
      simp [State.finish, State.unpackedCall, State.clearCall, hcap, hpol]
    | none =>
      refine ⟨_, complete_decode_of_pass hp hv hm, ?_⟩
      rw [complete_decode_of_pass hp' (hv'.trans hv) (hm'.trans hm)]
      simp [State.finish, State.extractedCall, transitionDewhitened_eq, State.unpackedCall, State.clearCall, hcap, hpol]

/-! ### Decoding a transmitted frame (R13, R87, R135) -/

theorem firstViolation_captureOfPacket (pkt : Vector Byte 9) (par : Vector Bit 9) :
    firstViolation (captureOfPacket pkt par) = none :=
  firstViolation_captureOf _

theorem unpackedCall_of_transmittedFrame {s : State} {pkt : Vector Byte 9} {par : Vector Bit 9}
    (hcap : s.cap = captureOfPacket pkt par) (hpol : s.pol = polarityOfPacket pkt) :
    s.unpackedCall.pkt = pkt ∧ s.unpackedCall.par = par := by
  simp only [State.unpackedCall, hcap, hpol, packetOf_transmittedFrame, parityBitsOf_transmittedFrame, and_self]

/-- Settles O51: the received packet is the whitened one, it passes validation, and dewhitening undoes the whitening. -/
theorem decodeOfTransmittedFrame : Obligations.DecodeOfTransmittedFrame := by
  unfold Obligations.DecodeOfTransmittedFrame
  intro s dew par8 hp hcap hpol
  have hclean : firstViolation s.cap = none := hcap ▸ firstViolation_captureOfPacket _ _
  obtain ⟨hpkt, hpar⟩ := unpackedCall_of_transmittedFrame hcap hpol
  have hpass : validate s.unpackedCall.pkt s.unpackedCall.par = none := by rw [hpkt, hpar, validate_parityFor]
  have hdew : s.extractedCall.dew = dew := calc
    s.extractedCall.dew = dewhitened s.unpackedCall.pkt := rfl
    _ = dew := by rw [hpkt, dewhitened_whitened]
  obtain ⟨hserial, hhumidity, htemp, htint, htfrac⟩ := readingOfDew_extractedCall s
  rw [hdew] at hserial hhumidity htemp
  exact ⟨_, complete_decode_of_pass hp hclean hpass, rfl, rfl, rfl, rfl, rfl, rfl, hpkt, hpar, hdew,
    hserial, hhumidity, htemp, htint, htfrac, rfl, rfl, rfl, rfl⟩

/-- Settles O52: the received packet and parity bits are the sent ones, and validation reports byte i. -/
theorem decodeOfFrameWithBadParity : Obligations.DecodeOfFrameWithBadParity := by
  unfold Obligations.DecodeOfFrameWithBadParity
  intro s pkt par i hp hcap hpol hi hbelow
  have hclean : firstViolation s.cap = none := hcap ▸ firstViolation_captureOfPacket _ _
  obtain ⟨hpkt, hpar⟩ := unpackedCall_of_transmittedFrame hcap hpol
  have hfail : validate s.unpackedCall.pkt s.unpackedCall.par = some ⟨i.val, by omega⟩ := by
    rw [hpkt, hpar, validate_eq_some_of_first i hi hbelow]
  exact ⟨_, complete_decode_of_mismatch hp hclean hfail, rfl, rfl, rfl, rfl, hpkt, hpar, rfl, rfl, rfl, rfl, rfl, rfl⟩

end Sys2Proof.Machine

/-! # Proofs: the schedule with T_CMD given (R7, R132, R291) -/

namespace Sys2Proof.Machine

theorem step_of_completion {s : State} {es : List Event} (he : s.events = .completion :: es) (hb : s.busy = true) :
    step s = complete (s.withEvents es) := by
  simp [step, nextTurn, he, hb]

theorem busy_of_completionForced {tCmd : Nat} {s : State} (h : completionForced tCmd s = true) : s.busy = true := by
  simp only [completionForced, Bool.and_eq_true] at h
  obtain ⟨⟨hb, -⟩, -⟩ := h
  exact hb

/-- Settles O57: a forced completion is what the untimed core does when its schedule has a completion first. -/
theorem timedStepIsUntimedStep : Obligations.TimedStepIsUntimedStep := by
  unfold Obligations.TimedStepIsUntimedStep
  intro tCmd s
  unfold stepTimed
  split
  case isTrue hf =>
    have hb := busy_of_completionForced hf
    exact .inr ⟨hb, (step_of_completion (s := { s with events := .completion :: s.events }) rfl hb).symm⟩
  case isFalse => exact .inl rfl

/-- A command that is in flight after a transaction was accepted by it, or was in flight before with the same count. -/
theorem Effect.busyTxns_of_busy {s t : State} (h : Effect s t) (hb : t.busy = true) :
    t.busyTxns = 0 ∨ (s.busy = true ∧ t.busyTxns = s.busyTxns) := by
  cases h with
  | accepted => exact .inl rfl
  | acceptedStep => exact .inl rfl
  | read => exact .inr ⟨hb, rfl⟩
  | ignored => exact .inr ⟨hb, rfl⟩
  | cap => exact .inr ⟨hb, rfl⟩
  | ctrl => exact .inr ⟨hb, rfl⟩
  | commandError => exact .inr ⟨hb, rfl⟩

theorem withinTCmd_of_rest {tCmd : Nat} {s : State} (h : s.busy = false) : s.withinTCmd tCmd := by
  simp [State.withinTCmd, h]

theorem withinTCmd_of_complete {tCmd : Nat} {s t : State} (h : complete s = .next t) : t.withinTCmd tCmd := by
  obtain ⟨-, hb, -⟩ := complete_frame h
  exact withinTCmd_of_rest hb

theorem withinTCmd_of_transaction {tCmd : Nat} {s t : State} {w : TxnWord} {es : List Event} {i : Instr}
    (hf : ¬ completionForced tCmd s = true) (he : s.events = .txn w :: es)
    (h : exec i (s.withEvents es).countTxn = .next t) : t.withinTCmd tCmd := by
  intro hb
  obtain h0 | ⟨hbusy, hcount⟩ := (exec_effect h).busyTxns_of_busy hb
  · omega
  · have hbusy : s.busy = true := by simpa using hbusy
    have hlt : s.busyTxns < tCmd := by simpa [completionForced, State.transactionNext, he, hbusy] using hf
    have hnext : t.busyTxns = s.busyTxns + 1 := by simp [hcount, hbusy]
    omega

/-- Settles O58: only a transaction adds to the count, and it runs only where the completion can still wait. -/
theorem timedStepKeepsBound : Obligations.TimedStepKeepsBound := by
  unfold Obligations.TimedStepKeepsBound
  intro tCmd s t hs h
  unfold stepTimed at h
  split at h
  case isTrue => exact withinTCmd_of_complete h
  case isFalse hf =>
    obtain ⟨-, -, rfl⟩ | ⟨-, -, hc⟩ | ⟨es, -, -, hc⟩ | ⟨es, -, hb, rfl⟩ | ⟨es, -, rfl⟩ | ⟨es, w, i, he, -, hx⟩ :=
      step_cases h
    · exact hs
    · exact withinTCmd_of_complete hc
    · exact withinTCmd_of_complete hc
    · exact withinTCmd_of_rest hb
    · exact withinTCmd_of_rest rfl
    · exact withinTCmd_of_transaction hf he hx

end Sys2Proof.Machine

/-! # Proofs: the consistency of the state, kept by every step (R23, R24, R31 to R33, R46, R182, R253) -/

namespace Sys2Proof.Machine

/-! ### What a call's elements must say of each other, and that the sequencer keeps it -/

/-- The part of the invariant that speaks of the call alone: the elements that only the sequencer moves. -/
structure State.CallConsistent (s : State) : Prop where
  errorMatches : s.errorMatchesPhase
  resultsMatch : s.resultsMatchPhase
  unusedBits : s.dbuf[10] &&& 0x7F#8 = 0x00#8

theorem State.Consistent.call {s : State} (h : s.Consistent) : s.CallConsistent :=
  ⟨h.errorMatches, h.resultsMatch, h.unusedBits⟩

theorem callConsistent_clearCall (s : State) : s.clearCall.CallConsistent where
  errorMatches := ⟨rfl, rfl, rfl⟩
  resultsMatch := ⟨rfl, ⟨rfl, rfl⟩, rfl, rfl, rfl, rfl, rfl, rfl⟩
  unusedBits := by simp

theorem lt_of_firstViolationFrom {k j : Nat} {bs : List Byte} (h : firstViolationFrom k bs = some j) :
    j < k + bs.length := by
  induction bs generalizing k with
  | nil => simp [firstViolationFrom] at h
  | cons b bs ih =>
    simp only [firstViolationFrom] at h
    split at h
    · obtain rfl : k = j := by simpa using h
      simp
    · have hj := ih h
      simp only [List.length_cons]
      omega

theorem lt_of_firstViolation {cap : Vector Byte 20} {k : Nat} (h : firstViolation cap = some k) : k < 20 := by
  simpa using lt_of_firstViolationFrom h

theorem lt_of_validate {pkt : Vector Byte 9} {par : Vector Bit 9} {i : Fin 9} (h : validate pkt par = some i) :
    i.val < 8 := by
  have hall : ∀ j ∈ checkedBytes, j.val < 8 := by decide
  exact hall i (List.mem_of_find?_eq_some h)

/-- R182: the decoded buffer ends in 0x00, so realignment puts one bit into DBUF[10], the top one. -/
theorem unusedBits_receivedBuffer (pol : Bit) (cap : Vector Byte 20) :
    (receivedBuffer pol cap)[10] &&& 0x7F#8 = 0x00#8 := by
  have hshift : ∀ top : Bit, shiftIn top 0x00#8 &&& 0x7F#8 = 0x00#8 := by decide
  have hlast : (decodedBuffer .sameRank cap)[10] = 0x00#8 := by simp [decodedBuffer]
  rw [receivedBuffer, getElem_realigned_succ _ _ (j := 9) (by omega), hlast, hshift]

theorem callConsistent_transitionIdle {s : State} (hp : s.phase = .idle) (h : s.CallConsistent) :
    (transitionIdle s).CallConsistent := by
  obtain ⟨herr, hres, hbits⟩ := h
  simp only [State.errorMatchesPhase, State.resultsMatchPhase, hp] at herr hres
  obtain ⟨hkind, hidx, -⟩ := herr
  obtain ⟨hdbuf, hempty⟩ := hres
  cases hv : firstViolation s.cap with
  | some k =>
    have hk := lt_of_firstViolation hv
    rw [transitionIdle_of_violation hv]
    exact ⟨⟨rfl, by simp; omega, rfl⟩, ⟨hdbuf, hempty⟩, hbits⟩
  | none =>
    rw [transitionIdle_of_clean hv]
    exact ⟨⟨hkind, hidx, rfl⟩, hempty, unusedBits_receivedBuffer _ _⟩

theorem callConsistent_transitionRealigned {s : State} (hp : s.phase = .realigned) (h : s.CallConsistent) :
    (transitionRealigned s).CallConsistent := by
  obtain ⟨herr, hres, hbits⟩ := h
  simp only [State.errorMatchesPhase, State.resultsMatchPhase, hp] at herr hres
  obtain ⟨-, hdew, hreading⟩ := hres
  exact ⟨herr, ⟨⟨rfl, rfl⟩, hdew, hreading⟩, hbits⟩

theorem callConsistent_transitionUnpacked {s : State} (hp : s.phase = .unpacked) (h : s.CallConsistent) :
    (transitionUnpacked s).CallConsistent := by
  obtain ⟨herr, hres, hbits⟩ := h
  simp only [State.errorMatchesPhase, State.resultsMatchPhase, hp] at herr hres
  obtain ⟨hkind, hidx, hconsumed⟩ := herr
  obtain ⟨hpacket, hdew, hreading⟩ := hres
  cases hv : validate s.pkt s.par with
  | some i =>
    have hi := lt_of_validate hv
    rw [transitionUnpacked_of_mismatch hv]
    exact ⟨⟨rfl, by simp; omega, hconsumed⟩, ⟨hpacket, by simp [hv], hdew, hreading⟩, hbits⟩
  | none =>
    rw [transitionUnpacked_of_pass hv]
    exact ⟨⟨hkind, hidx, hconsumed⟩, ⟨hpacket, hv, rfl, hreading⟩, hbits⟩

theorem callConsistent_transitionDewhitened {s : State} (hp : s.phase = .dewhitened) (h : s.CallConsistent) :
    (transitionDewhitened s).CallConsistent := by
  obtain ⟨herr, hres, hbits⟩ := h
  simp only [State.errorMatchesPhase, State.resultsMatchPhase, hp] at herr hres
  obtain ⟨hpacket, hpass, hdew, -⟩ := hres
  exact ⟨herr, ⟨hpacket, hpass, hdew, ⟨rfl, rfl, rfl, rfl, rfl⟩⟩, hbits⟩

theorem callConsistent_of_transition {s t : State} (hs : s.CallConsistent) (h : transition s = .next t) :
    t.CallConsistent := by
  obtain ⟨hp, rfl⟩ | ⟨hp, rfl⟩ | ⟨hp, rfl⟩ | ⟨hp, rfl⟩ := transition_cases h
  · exact callConsistent_transitionIdle hp hs
  · exact callConsistent_transitionRealigned hp hs
  · exact callConsistent_transitionUnpacked hp hs
  · exact callConsistent_transitionDewhitened hp hs

/-- A call of n + 1 transitions at most ends at once in a terminal phase, or makes a transition and goes on. -/
theorem runCall_succ_cases {n : Nat} {s t : State} (h : runCall (n + 1) s = .next t) :
    t = s ∨ ∃ u, transition s = .next u ∧ runCall n u = .next t := by
  unfold runCall at h
  split at h
  · cases h; exact .inl rfl
  · split at h
    · next u hu => exact .inr ⟨u, hu, h⟩
    all_goals cases h

theorem callConsistent_of_runCall {n : Nat} {s t : State} (hs : s.CallConsistent) (h : runCall n s = .next t) :
    t.CallConsistent := by
  induction n generalizing s with
  | zero =>
    unfold runCall at h
    split at h <;> cases h
    exact hs
  | succ n ih =>
    obtain rfl | ⟨u, hu, hrun⟩ := runCall_succ_cases h
    · exact hs
    · exact ih (callConsistent_of_transition hs hu) hrun

theorem callConsistent_of_commandEffect {c : Command} {s t : State} (hs : s.CallConsistent)
    (h : commandEffect c s = .next t) : t.CallConsistent := by
  cases c with
  | decode => exact callConsistent_of_runCall (callConsistent_clearCall s) h
  | step => exact callConsistent_of_transition hs h
  | clear => cases h; exact callConsistent_clearCall s

theorem callConsistent_of_complete {s t : State} (hs : s.CallConsistent) (h : complete s = .next t) :
    t.CallConsistent := by
  obtain ⟨c, u, -, hu, rfl⟩ := complete_cases h
  obtain ⟨herr, hres, hbits⟩ := callConsistent_of_commandEffect hs hu
  exact ⟨herr, hres, hbits⟩

/-! ### Every step keeps the invariant -/

/-- With nothing in flight, only the command error and the call have something to say. -/
theorem consistent_of_rest {s : State} (hb : s.busy = false) (hp : s.pending = none)
    (hc : s.cmderr = (s.cmdcause != .none)) (h : s.CallConsistent) : s.Consistent where
  inFlight := by simp [hb, hp]
  stepAccepted := by simp [hp]
  causeMatches := hc
  errorMatches := h.errorMatches
  resultsMatch := h.resultsMatch
  unusedBits := h.unusedBits

/-- The port and the model's counters are no part of the invariant. -/
theorem State.Consistent.withEvents {s : State} (h : s.Consistent) (es : List Event) : (s.withEvents es).Consistent :=
  ⟨h.inFlight, h.stepAccepted, h.causeMatches, h.errorMatches, h.resultsMatch, h.unusedBits⟩

theorem State.Consistent.countTxn {s : State} (h : s.Consistent) : s.countTxn.Consistent :=
  ⟨h.inFlight, h.stepAccepted, h.causeMatches, h.errorMatches, h.resultsMatch, h.unusedBits⟩

theorem consistent_of_complete {s t : State} (hs : s.Consistent) (h : complete s = .next t) : t.Consistent := by
  obtain ⟨⟨-, -, herr, hcause, -⟩, hb, hp⟩ := complete_frame h
  exact consistent_of_rest hb hp (by rw [herr, hcause, hs.causeMatches]) (callConsistent_of_complete hs.call h)

theorem consistent_resetCore (s : State) : s.resetCore.Consistent :=
  consistent_of_rest rfl rfl rfl (callConsistent_clearCall s.resetCore)

/-- A transaction moves no call; what is in flight and the command error stay as the invariant wants them. -/
theorem Effect.consistent {s t : State} (hs : s.Consistent) (h : Effect s t) : t.Consistent := by
  obtain ⟨hflight, hstep, hcause, herr, hres, hbits⟩ := hs
  cases h with
  | read => exact ⟨hflight, hstep, hcause, herr, hres, hbits⟩
  | ignored => exact ⟨hflight, hstep, hcause, herr, hres, hbits⟩
  | cap => exact ⟨hflight, hstep, hcause, herr, hres, hbits⟩
  | ctrl => exact ⟨hflight, hstep, hcause, herr, hres, hbits⟩
  | accepted _ c hc => exact ⟨rfl, by simp [hc], rfl, herr, hres, hbits⟩
  | acceptedStep _ ht => exact ⟨rfl, fun _ => ht, hcause, herr, hres, hbits⟩
  | commandError c hc =>
    have hraised : (true : Bool) = ((if s.cmderr then s.cmdcause else c) != .none) := by
      cases he : s.cmderr
      · simpa using hc
      · simpa [he] using hcause
    exact ⟨hflight, hstep, hraised, herr, hres, hbits⟩

/-- Settles O54: a completion or a reset ends with a consistent call at rest, a transaction has one of Effect's forms. -/
theorem stepKeepsConsistency : Obligations.StepKeepsConsistency := by
  unfold Obligations.StepKeepsConsistency
  intro s t hs h
  obtain ⟨-, -, rfl⟩ | ⟨-, -, hc⟩ | ⟨es, -, -, hc⟩ | ⟨es, -, -, rfl⟩ | ⟨es, -, rfl⟩ | ⟨es, w, i, -, -, hx⟩ :=
    step_cases h
  · exact hs
  · exact consistent_of_complete hs hc
  · exact consistent_of_complete (hs.withEvents es) hc
  · exact hs.withEvents es
  · exact consistent_resetCore _
  · exact (exec_effect hx).consistent (hs.withEvents es).countTxn

/-- Settles O53: reset is where every call starts, at rest and without a command error. -/
theorem resetIsConsistent : Obligations.ResetIsConsistent :=
  consistent_of_rest rfl rfl rfl (callConsistent_clearCall State.reset)

end Sys2Proof.Machine

/-! # Proofs: the register window (R26, R30, R31, R45, R110) -/

namespace Sys2Proof.Machine

/-! ### The register map (R26) -/

/-- Each register of R26 stands at its own offset. -/
theorem regAt_offset (r : Reg) : regAt r.offset = r := by
  cases r with
  | cap i => revert i; decide
  | dbuf i => revert i; decide
  | pkt i => revert i; decide
  | dew i => revert i; decide
  | _ => rfl

theorem readValue_offset (r : Reg) (s : State) : s.readValue r.offset = s.readReg r := by
  rw [State.readValue, regAt_offset]

theorem regAt_of_unassigned {off : Offset} (h : (0x21 ≤ off.toNat ∧ off.toNat ≤ 0x2F) ∨
    (0x3B ≤ off.toNat ∧ off.toNat ≤ 0x3F) ∨ (0x4B ≤ off.toNat ∧ off.toNat ≤ 0x4F) ∨ 0x59 ≤ off.toNat) :
    regAt off = .unassigned := by
  revert off
  decide

/-! ### The bytes made of several elements (R30, R31, R64) -/

theorem errFlag_eq (s : State) : s.errFlag = decide (s.phase = .violation ∨ s.phase = .parityFailure) := by
  simp [State.errFlag, Bool.decide_or, beq_eq_decide]

theorem validFlag_eq (s : State) : s.validFlag = decide (s.phase = .extracted) := by
  simp [State.validFlag, beq_eq_decide]

theorem extractLsb'_bytes_of_half (v : Half) : v.extractLsb' 8 8 ++ v.extractLsb' 0 8 = v :=
  (BitVec.extractLsb'_append_extractLsb'_eq_extractLsb' (start₁ := 0) rfl).trans BitVec.extractLsb'_eq_self

theorem extractLsb'_parLow (s : State) (i : Fin 8) : s.parLow.extractLsb' i.val 1 = s.par[i.val] := by
  apply bit_eq_of_getLsbD_zero
  simp only [State.parLow, BitVec.getLsbD_extractLsb', BitVec.getLsbD_append]
  fin_cases i <;> simp

/-- Settles O12: each named offset through the register it stands for, the others through the map's last case. -/
theorem registerMapReads : Obligations.RegisterMapReads := by
  unfold Obligations.RegisterMapReads
  intro s
  have hstatus : s.readValue 0x16#7 = s.statusByte := readValue_offset .status s
  have htemp : s.readValue 0x1D#7 ++ s.readValue 0x1C#7 = s.temp := by
    rw [← extractLsb'_bytes_of_half s.temp]
    exact congrArg₂ _ (readValue_offset .tempH s) (readValue_offset .tempL s)
  have htint : s.readValue 0x1F#7 ++ s.readValue 0x1E#7 = s.tint := by
    rw [← extractLsb'_bytes_of_half s.tint]
    exact congrArg₂ _ (readValue_offset .tintH s) (readValue_offset .tintL s)
  have hpar : s.readValue 0x49#7 = s.parLow := readValue_offset .parL s
  refine ⟨fun i => readValue_offset (.cap i) s, readValue_offset .ctrl s, readValue_offset .cmd s, ?_,
    readValue_offset .errinfo s, readValue_offset .erridx s, readValue_offset .consumed s, readValue_offset .serial s,
    readValue_offset .humidity s, htemp, htint, readValue_offset .tfrac s, fun i => readValue_offset (.dbuf i) s,
    fun i => readValue_offset (.pkt i) s, fun i => ?_, readValue_offset .parH s,
    fun i => readValue_offset (.dew i) s, fun off hoff => ?_⟩
  · rw [hstatus, State.statusByte, errFlag_eq, validFlag_eq]
  · rw [hpar, extractLsb'_parLow]
  · rw [State.readValue, regAt_of_unassigned hoff]
    rfl

/-! ### The fields of STATUS and ERRINFO (R30, R31) -/

theorem extractLsb'_statusByte_phase (s : State) : s.statusByte.extractLsb' 0 4 = s.phase.code :=
  BitVec.extractLsb'_append_eq_right

theorem getLsbD_statusByte_flags (s : State) :
    s.statusByte.getLsbD 4 = s.busy ∧ s.statusByte.getLsbD 5 = s.validFlag ∧ s.statusByte.getLsbD 6 = s.errFlag ∧
      s.statusByte.getLsbD 7 = s.cmderr := by
  simp only [State.statusByte, BitVec.getLsbD_append]
  simp

theorem extractLsb'_errinfoByte (s : State) :
    s.errinfoByte.extractLsb' 0 2 = s.errkind.code ∧ s.errinfoByte.extractLsb' 2 2 = 0#2 ∧
      s.errinfoByte.extractLsb' 4 2 = s.cmdcause.code ∧ s.errinfoByte.extractLsb' 6 2 = 0#2 := by
  unfold State.errinfoByte
  generalize s.errkind.code = kind
  generalize s.cmdcause.code = cause
  revert kind cause
  decide

/-- Settles O13: the two bytes field by field, and the codes value by value. -/
theorem statusAndErrinfoFields : Obligations.StatusAndErrinfoFields := by
  unfold Obligations.StatusAndErrinfoFields
  intro s
  have hstatus : s.readValue 0x16#7 = s.statusByte := readValue_offset .status s
  have herrinfo : s.readValue 0x17#7 = s.errinfoByte := readValue_offset .errinfo s
  obtain ⟨hbusy, hvalid, herr, hcmderr⟩ := getLsbD_statusByte_flags s
  obtain ⟨hkind, hlow, hcause, hhigh⟩ := extractLsb'_errinfoByte s
  rw [hstatus, herrinfo]
  refine ⟨?_, hbusy, hvalid.trans (validFlag_eq s), herr.trans (errFlag_eq s), hcmderr, ?_, hlow, ?_, hhigh⟩
  · rw [extractLsb'_statusByte_phase]
    cases s.phase <;> rfl
  · rw [hkind]
    cases s.errkind <;> rfl
  · rw [hcause]
    cases s.cmdcause <;> rfl

/-! ### The window after reset (R45) -/

theorem readReg_reset (r : Reg) : State.reset.readReg r = 0x00#8 := by
  cases r with
  | cap i => exact Vector.getElem_replicate i.isLt
  | dbuf i => exact Vector.getElem_replicate i.isLt
  | pkt i => exact Vector.getElem_replicate i.isLt
  | dew i => exact Vector.getElem_replicate i.isLt
  | _ => decide

/-- Settles O10: every vector of the reset state is a repeated zero, and so is every register read from it. -/
theorem resetValues : Obligations.ResetValues := by
  unfold Obligations.ResetValues
  refine ⟨⟨fun i => ?_, rfl, rfl, rfl, rfl, rfl, rfl, rfl, rfl, rfl, fun i => ?_, fun i => ?_, fun i => ?_, fun i => ?_,
    rfl, rfl, rfl, rfl, rfl⟩, fun off => readReg_reset (regAt off)⟩
  all_goals exact Vector.getElem_replicate i.isLt

/-! ### What a host reads in a consistent state (R30, R31, R233, R235) -/

theorem msb_temperatureOf (dew : Vector Byte 9) : (temperatureOf dew).msb = false := by
  have hmask : Config.tempHiMask.msb = false := rfl
  simp only [temperatureOf, BitVec.msb_append, BitVec.msb_and, hmask]
  simp

theorem toNat_integerPart {temp : Half} (h : temp.msb = false) : (integerPart temp).toNat = temp.toNat / 10 := by
  have hlt := temp.isLt
  rw [integerPart, s16, BitVec.toInt_eq_toNat_of_msb h, show Config.tempDivisor = ((10 : Nat) : Int) from rfl,
    ← Int.ofNat_tdiv, BitVec.ofInt_natCast, BitVec.toNat_ofNat]
  omega

theorem toNat_fractionDigit {temp : Half} (h : temp.msb = false) : (fractionDigit temp).toNat = temp.toNat % 10 := by
  rw [fractionDigit, s16, BitVec.toInt_eq_toNat_of_msb h, show Config.tempDivisor = ((10 : Nat) : Int) from rfl,
    ← Int.ofNat_tmod, BitVec.ofInt_natCast, BitVec.toNat_ofNat]
  omega

/-- TEMP is its integer part and its fraction digit, in tenths (R233, R235). -/
def State.readingInTenths (s : State) : Prop :=
  s.temp.msb = false ∧ s.tint.toNat ≤ 3276 ∧ s.tfrac.toNat ≤ 9 ∧ s.temp.toNat = 10 * s.tint.toNat + s.tfrac.toNat

theorem readingInTenths_of_noReading {s : State} (h : s.noReading) : s.readingInTenths := by
  obtain ⟨-, -, htemp, htint, htfrac⟩ := h
  rw [State.readingInTenths, htemp, htint, htfrac]
  decide

theorem readingInTenths_of_readingOfDew {s : State} (h : s.readingOfDew) : s.readingInTenths := by
  obtain ⟨-, -, htemp, htint, htfrac⟩ := h
  have hmsb : s.temp.msb = false := htemp ▸ msb_temperatureOf s.dew
  have hlt : s.temp.toNat < 2 ^ 15 := BitVec.toNat_lt_of_msb_false hmsb
  rw [State.readingInTenths, htint, htfrac, toNat_integerPart hmsb, toNat_fractionDigit hmsb]
  exact ⟨hmsb, by omega, by omega, by omega⟩

/-- The error elements of a consistent state: one decode error with its index, or none (R31, R32, R33). -/
theorem State.Consistent.error_cases {s : State} (h : s.Consistent) :
    (s.phase = .violation ∧ s.errkind = .manchester ∧ s.erridx.toNat < 20 ∧ s.consumed = s.erridx) ∨
    (s.phase = .parityFailure ∧ s.errkind = .parity ∧ s.erridx.toNat < 8 ∧ s.consumed = 20#8) ∨
    (s.errFlag = false ∧ s.phase.isTransient = false ∧
      s.errkind = .none ∧ s.erridx = 0x00#8 ∧ s.consumed.toNat ≤ 20) := by
  have herr := h.errorMatches
  unfold State.errorMatchesPhase at herr
  cases hp : s.phase <;> simp_all [State.errFlag, Phase.isTransient]

theorem State.Consistent.not_transient {s : State} (h : s.Consistent) :
    s.phase ≠ .lineDecoding ∧ s.phase ≠ .validating := by
  obtain ⟨hp, -⟩ | ⟨hp, -⟩ | ⟨-, hrest, -⟩ := h.error_cases
  · simp [hp]
  · simp [hp]
  · exact ⟨fun hp => by simp [hp, Phase.isTransient] at hrest, fun hp => by simp [hp, Phase.isTransient] at hrest⟩

theorem State.Consistent.errkind_iff {s : State} (h : s.Consistent) :
    (s.errkind = .manchester ↔ s.phase = .violation) ∧ (s.errkind = .parity ↔ s.phase = .parityFailure) := by
  obtain ⟨hp, hk, -⟩ | ⟨hp, hk, -⟩ | ⟨hflag, -, hk, -⟩ := h.error_cases
  · simp [hp, hk]
  · simp [hp, hk]
  · simpa [hk, State.errFlag] using hflag

theorem State.Consistent.erridx_of_noError {s : State} (h : s.Consistent) (hk : s.errkind = .none) :
    s.erridx = 0x00#8 := by
  obtain ⟨-, hk', -⟩ | ⟨-, hk', -⟩ | ⟨-, -, -, hidx, -⟩ := h.error_cases
  · simp [hk] at hk'
  · simp [hk] at hk'
  · exact hidx

theorem State.Consistent.consumed_le {s : State} (h : s.Consistent) : s.consumed.toNat ≤ 20 := by
  obtain ⟨-, -, hlt, hc⟩ | ⟨-, -, -, hc⟩ | ⟨-, -, -, -, hle⟩ := h.error_cases
  · rw [hc]; omega
  · simp [hc]
  · exact hle

theorem State.Consistent.noReading_of_ne_extracted {s : State} (h : s.Consistent) (hp : s.phase ≠ .extracted) :
    s.noReading := by
  have hres := h.resultsMatch
  unfold State.resultsMatchPhase at hres
  cases hphase : s.phase <;> simp_all

theorem State.Consistent.readingInTenths {s : State} (h : s.Consistent) : s.readingInTenths := by
  by_cases hp : s.phase = .extracted
  · have hres := h.resultsMatch
    simp only [State.resultsMatchPhase, hp] at hres
    obtain ⟨-, -, -, hreading⟩ := hres
    exact readingInTenths_of_readingOfDew hreading
  · exact readingInTenths_of_noReading (h.noReading_of_ne_extracted hp)

theorem State.Consistent.idleValues {s : State} (h : s.Consistent) (hp : s.phase = .idle) :
    s.erridx = 0x00#8 ∧ s.consumed = 0x00#8 ∧ s.dbuf = Vector.replicate 11 0x00#8 ∧ s.noPacket ∧ s.noDew := by
  have herr := h.errorMatches
  have hres := h.resultsMatch
  simp only [State.errorMatchesPhase, State.resultsMatchPhase, hp] at herr hres
  obtain ⟨-, hidx, hconsumed⟩ := herr
  obtain ⟨hdbuf, hpacket, hdew, -⟩ := hres
  exact ⟨hidx, hconsumed, hdbuf, hpacket, hdew⟩

theorem not_validFlag_and_errFlag (s : State) : ¬ (s.validFlag = true ∧ s.errFlag = true) := by
  rintro ⟨hvalid, herr⟩
  have hp : s.phase = .extracted := by simpa [State.validFlag] using hvalid
  simp [State.errFlag, hp] at herr

/-- Settles O56: the phase decides the error elements and the results, and TEMP's sign is masked off. -/
theorem consistentStateReadings : Obligations.ConsistentStateReadings := by
  unfold Obligations.ConsistentStateReadings
  intro s h
  obtain ⟨hline, hvalidating⟩ := h.not_transient
  obtain ⟨hmanchester, hparity⟩ := h.errkind_iff
  exact ⟨hline, hvalidating, not_validFlag_and_errFlag s, hmanchester, hparity, h.erridx_of_noError, h.consumed_le,
    h.noReading_of_ne_extracted, h.idleValues, h.readingInTenths⟩

end Sys2Proof.Machine

/-! # Proofs: what a transaction, and a step, may change (R25, R44, R111, R131, R255, R259) -/

namespace Sys2Proof

/-! ### The words of a decoded transaction (R80, R85) -/

theorem encode_decodeCommand (v : Byte) : encode (decodeCommand v) = txnWord 1#1 cmdOffset v := by
  unfold decodeCommand
  split_ifs with h0 h1 h2 h3
  · rw [h0]; rfl
  · rw [h1]; rfl
  · rw [h2]; rfl
  · rw [h3]; rfl
  · rfl

theorem wf_decodeCommand (v : Byte) : (decodeCommand v).wf = true := by
  unfold decodeCommand
  split_ifs with h0 h1 h2 h3
  · rfl
  · rfl
  · rfl
  · rfl
  · simp only [Instr.wf, decide_eq_true_eq]
    bv_omega

/-- A word that spells a transaction is that transaction's own word, and the transaction is well formed. -/
theorem encode_of_decode {w : TxnWord} {i : Instr} (h : decode w = .instr i) : encode i = w ∧ i.wf = true := by
  rw [← txnWord_fields w]
  unfold decode at h
  split_ifs at h with hwe hoff hdata
  · cases h
    rw [hwe, hoff]
    exact ⟨encode_decodeCommand _, wf_decodeCommand _⟩
  · cases h
    rw [hwe]
    exact ⟨rfl, by simpa [Instr.wf] using hoff⟩
  · cases h
    have hwe0 : fieldWE w = 0#1 := by bv_omega
    rw [hwe0, hdata]
    exact ⟨rfl, rfl⟩

end Sys2Proof

namespace Sys2Proof.Machine

/-! ### Which registers a write reaches (R26, R43, R111) -/

theorem access_regAt_of_gt {off : Offset} (h : 0x16 ≤ off.toNat) :
    (regAt off).access ≠ .readWrite ∧ (regAt off).access ≠ .writeOnly := by
  revert off
  decide

theorem lt_of_access_readWrite {off : Offset} (h : (regAt off).access = .readWrite) : off.toNat < 0x15 := by
  revert off
  decide

theorem regAt_ne_cmd {off : Offset} (h : off ≠ cmdOffset) : regAt off ≠ .cmd := by
  revert off
  decide

theorem writeReg_of_ignored {r : Reg} (hrw : r.access ≠ .readWrite) (hwo : r.access ≠ .writeOnly) (v : Byte)
    (s : State) : writeReg r v s = s := by
  cases r with
  | cap i => exact absurd rfl hrw
  | ctrl => exact absurd rfl hrw
  | cmd => exact absurd rfl hwo
  | _ => rfl

theorem exec_wr_of_rest {s : State} (h : s.busy = false) (off : Offset) (v : Byte) :
    exec (.wr off v) s = .next (writeReg (regAt off) v s) := by
  rw [exec_wr, writeUnlessBusy_of_rest _ h]

/-- Settles O16: the register at the offset decides, and above CMD every register ignores a write. -/
theorem writeStores : Obligations.WriteStores := by
  unfold Obligations.WriteStores
  intro s v hb
  have hcap : ∀ i : Fin 20, regAt (BitVec.ofNat 7 i.val) = .cap i := fun i => regAt_offset (.cap i)
  have hctrl : regAt 0x14#7 = .ctrl := regAt_offset .ctrl
  refine ⟨fun i => ?_, ?_, fun off hoff => ?_⟩
  · rw [exec_wr_of_rest hb, hcap]
    rfl
  · rw [exec_wr_of_rest hb, hctrl]
    rfl
  · obtain ⟨hrw, hwo⟩ := access_regAt_of_gt hoff
    rw [exec_wr_of_rest hb, writeReg_of_ignored hrw hwo]

/-! ### What each well-formed transaction can do (R110, R111, R113, R130) -/

/-- Effect with the transaction beside it, for the transactions that words spell: which one accepts which command, and
which one stores. -/
inductive TxnEffect (s : State) : Instr → State → Prop where
  | read (off : Offset) : TxnEffect s (.rd off) (s.hostRead off)
  | cap (h : s.busy = false) {off : Offset} {i : Fin 20} (hoff : regAt off = .cap i) (v : Byte) :
    TxnEffect s (.wr off v) (s.setCap i v)
  | ctrl (h : s.busy = false) {off : Offset} (hoff : regAt off = .ctrl) (v : Byte) : TxnEffect s (.wr off v) (s.setCtrl v)
  | ignored (i : Instr) (h : s.busy = false) : TxnEffect s i s
  | decode (h : s.busy = false) : TxnEffect s .decode (s.clearCommandError.accept .decode)
  | step (h : s.busy = false) (ht : s.phase.isTerminal = false) : TxnEffect s .step (s.accept .step)
  | clear (h : s.busy = false) : TxnEffect s .clear (s.clearCommandError.accept .clear)
  | commandError (i : Instr) (c : CmdCause) : TxnEffect s i (s.raiseCommandError c)

/-- The write gate (R113): a write's effect counts only with BUSY = 0. -/
theorem txnEffect_of_write {s : State} {i : Instr} (effect : State → State)
    (h : s.busy = false → TxnEffect s i (effect s)) : TxnEffect s i (s.writeUnlessBusy effect) := by
  cases hb : s.busy
  · rw [writeUnlessBusy_of_rest _ hb]; exact h hb
  · rw [writeUnlessBusy_of_busy _ hb]; exact .commandError i _

theorem command_reserved {v : Byte} (h : 4 ≤ v.toNat) (s : State) :
    command v s = s.raiseCommandError .reservedOpcode := by
  have hne : v ≠ 0x00#8 ∧ v ≠ 0x01#8 ∧ v ≠ 0x02#8 ∧ v ≠ 0x03#8 := by bv_omega
  simp [command, hne, commandReserved]

theorem txnEffect_writeReg {s : State} (hb : s.busy = false) {off : Offset} (hoff : off ≠ cmdOffset) (v : Byte) :
    TxnEffect s (.wr off v) (writeReg (regAt off) v s) := by
  cases hr : regAt off with
  | cap i => exact .cap hb hr v
  | ctrl => exact .ctrl hb hr v
  | cmd => exact absurd hr (regAt_ne_cmd hoff)
  | _ => exact .ignored _ hb

/-- The inversion of exec for a well-formed transaction. -/
theorem exec_txnEffect {i : Instr} {s t : State} (hwf : i.wf = true) (h : exec i s = .next t) : TxnEffect s i t := by
  cases i with
  | rd off => cases h; exact .read off
  | wr off v =>
    cases h
    exact txnEffect_of_write _ fun hb => txnEffect_writeReg hb (by simpa [Instr.wf] using hwf) v
  | nop => cases h; exact txnEffect_of_write _ fun hb => .ignored _ hb
  | decode => cases h; exact txnEffect_of_write _ .decode
  | step =>
    cases h
    refine txnEffect_of_write _ fun hb => ?_
    cases ht : s.phase.isTerminal
    · simp only [commandStep, ht]; exact .step hb ht
    · simp only [commandStep, ht]; exact .commandError _ _
  | clear => cases h; exact txnEffect_of_write _ .clear
  | reservedCmd v =>
    cases h
    refine txnEffect_of_write _ fun hb => ?_
    rw [command_reserved (by simpa [Instr.wf] using hwf)]
    exact .commandError _ _

/-- The inversion of a step by what acts: nothing, a completion, reset, or a transaction, whose word is its own. -/
theorem step_actor_cases {s t : State} (h : step s = .next t) :
    (∃ es, t = s.withEvents es) ∨ (∃ es, complete (s.withEvents es) = .next t) ∨
    (∃ es, s.events = .rst :: es ∧ t = (s.withEvents es).resetCore) ∨
    (∃ es i, s.events = .txn (encode i) :: es ∧ TxnEffect (s.withEvents es).countTxn i t) := by
  obtain ⟨-, -, rfl⟩ | ⟨-, -, hc⟩ | ⟨es, -, -, hc⟩ | ⟨es, -, -, rfl⟩ | ⟨es, he, rfl⟩ | ⟨es, w, i, he, hd, hx⟩ :=
    step_cases h
  · exact .inl ⟨t.events, rfl⟩
  · exact .inr (.inl ⟨s.events, hc⟩)
  · exact .inr (.inl ⟨es, hc⟩)
  · exact .inl ⟨es, rfl⟩
  · exact .inr (.inr (.inl ⟨es, he, rfl⟩))
  · obtain ⟨rfl, hwf⟩ := encode_of_decode hd
    exact .inr (.inr (.inr ⟨es, i, he, exec_txnEffect hwf hx⟩))

/-! ### What changes what (R25, R44, R74, R131, R255, R259) -/

/-- Settles O28: no form of Effect writes an element of the call. -/
theorem transactionsMoveNoCall : Obligations.TransactionsMoveNoCall := by
  unfold Obligations.TransactionsMoveNoCall
  intro i s t h
  cases exec_effect h <;> rfl

/-- Settles O29: a completion keeps CAP and POL, and of the transactions only the stores write them. -/
theorem captureChangedOnlyByHost : Obligations.CaptureChangedOnlyByHost := by
  unfold Obligations.CaptureChangedOnlyByHost
  intro s t h
  obtain ⟨es, rfl⟩ | ⟨es, hc⟩ | ⟨es, he, -⟩ | ⟨es, i, he, heff⟩ := step_actor_cases h
  · exact .inl ⟨rfl, rfl⟩
  · obtain ⟨⟨hcap, hpol, -⟩, -⟩ := complete_frame hc
    exact .inl ⟨hcap, hpol⟩
  · exact .inr (.inl ⟨es, he⟩)
  · cases heff with
    | @cap hb off _ hoff v => exact .inr (.inr ⟨hb, es, off, v, he, lt_of_access_readWrite (by rw [hoff]; rfl)⟩)
    | @ctrl hb off hoff v => exact .inr (.inr ⟨hb, es, off, v, he, lt_of_access_readWrite (by rw [hoff]; rfl)⟩)
    | _ => exact .inl ⟨rfl, rfl⟩

/-- Settles O30: a completion and a reset end with BUSY = 0, and of the transactions only the three acceptances set it. -/
theorem busySetOnlyByAcceptance : Obligations.BusySetOnlyByAcceptance := by
  unfold Obligations.BusySetOnlyByAcceptance
  intro s t h hb hbt
  have hchanged : t.busy ≠ s.busy := by simp [hb, hbt]
  obtain ⟨es, rfl⟩ | ⟨es, hc⟩ | ⟨es, -, rfl⟩ | ⟨es, i, he, heff⟩ := step_actor_cases h
  · exact absurd rfl hchanged
  · obtain ⟨-, hrest, -⟩ := complete_frame hc
    exact absurd (hrest.trans hb.symm) hchanged
  · exact absurd hb.symm hchanged
  · cases heff with
    | decode => exact ⟨es, .inl ⟨he, rfl⟩⟩
    | step _ ht => exact ⟨es, .inr (.inl ⟨he, rfl, ht⟩)⟩
    | clear => exact ⟨es, .inr (.inr ⟨he, rfl⟩)⟩
    | _ => exact absurd rfl hchanged

/-- Settles O31: a completion keeps CMDERR, and of the transactions only the acceptances of DECODE and CLEAR clear it. -/
theorem commandErrorClearedOnlyBy : Obligations.CommandErrorClearedOnlyBy := by
  unfold Obligations.CommandErrorClearedOnlyBy
  intro s t h hs ht
  have hchanged : t.cmderr ≠ s.cmderr := by simp [hs, ht]
  obtain ⟨es, rfl⟩ | ⟨es, hc⟩ | ⟨es, he, -⟩ | ⟨es, i, he, heff⟩ := step_actor_cases h
  · exact absurd rfl hchanged
  · obtain ⟨⟨-, -, hkept, -⟩, -⟩ := complete_frame hc
    exact absurd hkept hchanged
  · exact ⟨es, .inl he⟩
  · cases heff with
    | decode hb => exact ⟨es, .inr ⟨hb, .inl he⟩⟩
    | clear hb => exact ⟨es, .inr ⟨hb, .inr he⟩⟩
    | commandError => cases ht
    | _ => exact absurd rfl hchanged

end Sys2Proof.Machine

/-! # Proofs: the register window as a memory, and decoding valid symbols (R66, R67, R69, R70, R87, R289) -/

namespace Sys2Proof.Machine

/-! ### The step that runs a presented word (R69, R70, R80) -/

theorem step_of_transaction {s : State} {w : TxnWord} {es : List Event} {i : Instr} (he : s.events = .txn w :: es)
    (hd : decode w = .instr i) : step s = exec i (s.withEvents es).countTxn := by
  simp [step, nextTurn, he, presentWord, hd]

theorem decode_of_decodeTableWord {nbits w : Nat} {i : Instr} (h : decodeTableWord nbits w = some i) :
    decode (tableWord nbits w) = .instr i := by
  unfold decodeTableWord at h
  split at h
  · next j hj => rw [hj, Option.some.inj h]
  · cases h

/-- Settles O5: `withFetchWord` puts the word at the head of the event list, so both clauses run a presented word. -/
theorem stepRunsPresentedTransaction : Obligations.StepRunsPresentedTransaction := by
  unfold Obligations.StepRunsPresentedTransaction
  refine ⟨fun s w es i he hd => step_of_transaction he hd, fun s w i h => ?_⟩
  exact step_of_transaction (s := s.withFetchWord 16 w) rfl (decode_of_decodeTableWord h)

/-! ### A read leaves the window alone (R67, R110) -/

@[simp] theorem readValue_hostRead (off a : Offset) (s : State) : (s.hostRead off).readValue a = s.readValue a := by
  unfold State.readValue
  cases regAt a <;> rfl

/-- A read that is no draw returns what the window holds, and uses no draw up. -/
theorem hostRead_of_noDraw {s : State} {off : Offset} (h : s.busy = false ∨ readsAsDraw off = false) :
    s.hostRead off = { s with reads := s.readValue off :: s.reads } := by
  obtain hb | hd := h
  · simp [State.hostRead, readByte_of_rest off hb, hb]
  · simp [State.hostRead, readByte_of_noDraw hd, hd]

/-- Settles O15: a read that is no draw returns ReadValue, which no read changes. -/
theorem readsChangeNoRegister : Obligations.ReadsChangeNoRegister := by
  unfold Obligations.ReadsChangeNoRegister
  intro s off
  refine ⟨s.readByte off, (s.hostRead off).draws, rfl, fun h => ?_⟩
  have hbyte : s.readByte off = s.readValue off := h.elim (readByte_of_rest off) readByte_of_noDraw
  have hagain := hostRead_of_noDraw (s := s.hostRead off) h
  rw [readValue_hostRead, ← hbyte] at hagain
  exact congrArg Host.Outcome.next hagain

/-! ### A write reaches one offset of the window (R26, R70, R111, R289) -/

theorem regAt_of_lt {off : Offset} (h : off.toNat < 0x14) : regAt off = .cap ⟨off.toNat, h⟩ := by
  simp [regAt, h]

/-- Every offset but an unassigned one is the offset of the register it names. -/
theorem offset_regAt {off : Offset} (h : regAt off ≠ .unassigned) : (regAt off).offset = off := by
  revert off
  decide

theorem regAt_ne_of_ne {a off : Offset} (ha : a ≠ off) (h : regAt off ≠ .unassigned) : regAt a ≠ regAt off := by
  intro heq
  refine ha ?_
  rw [← offset_regAt h, ← heq, offset_regAt (heq ▸ h)]

theorem readReg_setCap_of_ne {r : Reg} {i : Fin 20} (h : r ≠ .cap i) (v : Byte) (s : State) :
    (s.setCap i v).readReg r = s.readReg r := by
  cases r with
  | cap j => exact Vector.getElem_set_ne i.isLt j.isLt fun hij => h (congrArg Reg.cap (Fin.ext hij.symm))
  | _ => rfl

theorem readReg_setCap_self (i : Fin 20) (v : Byte) (s : State) : (s.setCap i v).readReg (.cap i) = v :=
  Vector.getElem_set_self _

theorem readReg_setCtrl_of_ne {r : Reg} (h : r ≠ .ctrl) (v : Byte) (s : State) :
    (s.setCtrl v).readReg r = s.readReg r := by
  cases r with
  | ctrl => exact absurd rfl h
  | _ => rfl

theorem readValue_writeReg_of_ne {a off : Offset} (ha : a ≠ off) (hoff : off ≠ cmdOffset) (v : Byte) (s : State) :
    (writeReg (regAt off) v s).readValue a = s.readValue a := by
  have hne := regAt_ne_of_ne ha
  cases hr : regAt off with
  | cap i => exact readReg_setCap_of_ne (hr ▸ hne (by simp [hr])) v s
  | ctrl => exact readReg_setCtrl_of_ne (hr ▸ hne (by simp [hr])) v s
  | cmd => exact absurd hr (regAt_ne_cmd hoff)
  | _ => rfl

/-- Settles O17: CAP and CTRL are each at one offset alone, and above CMD a write is ignored. -/
theorem writeFrameOfWindow : Obligations.WriteFrameOfWindow := by
  unfold Obligations.WriteFrameOfWindow
  intro s off v hb hoff
  refine ⟨_, exec_wr_of_rest hb off v, fun a ha => readValue_writeReg_of_ne ha hoff v s, ?_⟩
  split_ifs with hcap hctrl
  · rw [State.readValue, regAt_of_lt hcap]
    exact readReg_setCap_self _ v s
  · subst hctrl
    rfl
  · obtain ⟨hrw, hwo⟩ := access_regAt_of_gt (off := off) (by bv_omega)
    rw [writeReg_of_ignored hrw hwo]

/-! ### Decoding a capture of valid symbols (R87, R160, R163) -/

theorem lineDecode_of_clean {s : State} (h : firstViolation s.cap = none) :
    lineDecode s = (none, { s with dbuf := decodedBuffer .sameRank s.cap, consumed := 20#8 }) := by
  simp [lineDecode, h, Config.groupOrder, Config.capLen]

theorem getElem_decodedBuffer (order : GroupOrder) (cap : Vector Byte 20) (m : Fin 10) :
    (decodedBuffer order cap)[m.val] = decodedByte order cap m := by
  simp [decodedBuffer]

/-- Settles O36: such a capture holds no violation, and each pair of its bytes gives back the byte it codes. -/
theorem validSymbolsDecodeToChosenBytes : Obligations.ValidSymbolsDecodeToChosenBytes := by
  unfold Obligations.ValidSymbolsDecodeToChosenBytes
  intro s d hcap
  have hclean : firstViolation s.cap = none := hcap ▸ firstViolation_captureOf d
  refine ⟨_, lineDecode_of_clean hclean, fun m => ?_⟩
  rw [getElem_decodedBuffer, hcap, decodedByte_captureOf]

end Sys2Proof.Machine

/-! # Proofs: the transaction words, both ways, and what a step refuses (R80 to R86, R140, R250) -/

namespace Sys2Proof

/-! ### Decoding and encoding (R80, R84, R85) -/

/-- R85 case 5 read backwards: a refused word is named as it is, and it is a RD word with DATA ≠ 0. -/
theorem refused_of_decode {w v : TxnWord} (h : decode w = .notATransaction v) :
    v = w ∧ fieldWE w = 0#1 ∧ fieldDATA w ≠ 0x00#8 := by
  unfold decode at h
  split_ifs at h with hwe hoff hdata
  cases h
  exact ⟨rfl, by bv_omega, hdata⟩

/-- A word with WE = 1, OFF = CMD and DATA of 4 or more is a reserved command. -/
theorem decode_reservedCommand {v : Byte} (h : 4 ≤ v.toNat) :
    decode (txnWord 1#1 cmdOffset v) = .instr (.reservedCmd v) := by
  rw [decode_command, decodeCommand_reserved v h]

/-- Settles O1: the decoder's case for each constructor's word. -/
theorem decodeOfEncode : Obligations.DecodeOfEncode := by
  unfold Obligations.DecodeOfEncode
  intro i hwf
  cases i with
  | rd off => exact decode_read off
  | wr off v => exact decode_write off v (by simpa [Instr.wf] using hwf)
  | nop => exact decode_command 0x00#8
  | decode => exact decode_command 0x01#8
  | step => exact decode_command 0x02#8
  | clear => exact decode_command 0x03#8
  | reservedCmd v => exact decode_reservedCommand (by simpa [Instr.wf] using hwf)

/-- Settles O2: what the decoder answers, an instruction or a refusal, says which of the two the word is. -/
theorem decoderPartitionsWords : Obligations.DecoderPartitionsWords := by
  unfold Obligations.DecoderPartitionsWords
  intro w
  cases hd : decode w with
  | instr i =>
    obtain ⟨hword, hwf⟩ := encode_of_decode hd
    exact .inl ⟨i, rfl, hwf, hword⟩
  | notATransaction v =>
    obtain ⟨rfl, hwe, hdata⟩ := refused_of_decode hd
    exact .inr ⟨rfl, hwe, hdata⟩

/-- Settles O3: one law of the decoder per case, and every word is the word of its fields. -/
theorem decodeFollowsFiveCases : Obligations.DecodeFollowsFiveCases := by
  unfold Obligations.DecodeFollowsFiveCases
  exact ⟨⟨decode_command _, decode_command _, decode_command _, decode_command _⟩,
    fun _ => decode_reservedCommand, decode_write, decode_read, decode_readWithData,
    fun w => ⟨_, _, _, (txnWord_fields w).symm⟩⟩

/-- Settles O4: each word written out is the word of the transaction it spells. -/
theorem specWordsDecode : Obligations.SpecWordsDecode :=
  ⟨decodeOfEncode .nop rfl, decodeOfEncode .decode rfl, decodeOfEncode .step rfl, decodeOfEncode .clear rfl,
    decodeOfEncode (.reservedCmd 0x04#8) rfl, decodeOfEncode (.wr 0x14#7 0x01#8) rfl,
    decodeOfEncode (.wr 0x05#7 0x6A#8) rfl, decodeOfEncode (.rd 0x16#7) rfl⟩

end Sys2Proof

namespace Sys2Proof.Machine

/-! ### A capture without violations, bit by bit (R88, R160, R163) -/

theorem getLsbD_nibbleOf (b : Byte) (j : Fin 4) :
    (nibbleOf .sameRank b).getLsbD j.val = (symbolGroup b j.val == 0b01#2) := by
  have hbit : ∀ c : Bool, (BitVec.ofBool c).getLsbD 0 = c := by decide
  match j with
  | 0 | 1 | 2 | 3 => simp only [nibbleOf, BitVec.getLsbD_append]; exact hbit _

theorem firstViolation_of_clean {cap : Vector Byte 20} (h : ∀ k : Fin 20, byteViolates cap[k] = false) :
    firstViolation cap = none := by
  refine firstViolationFrom_eq_none fun b hb => ?_
  obtain ⟨k, hk, rfl⟩ := Vector.mem_iff_getElem.mp (Vector.mem_toList_iff.mp hb)
  exact h ⟨k, hk⟩

/-- Settles O35: decoded byte m is two nibbles, and bit j of a nibble is group j of its capture byte. -/
theorem lineDecodeOfCleanCapture : Obligations.LineDecodeOfCleanCapture := by
  unfold Obligations.LineDecodeOfCleanCapture
  intro s hclean
  refine ⟨_, lineDecode_of_clean (firstViolation_of_clean hclean), by simp [decodedBuffer], fun m j => ?_⟩
  rw [getElem_decodedBuffer, decodedByte, BitVec.getLsbD_append, BitVec.getLsbD_append, if_neg (by omega),
    if_pos j.isLt, Nat.add_sub_cancel_left]
  exact ⟨getLsbD_nibbleOf _ j, getLsbD_nibbleOf _ j⟩

/-! ### The step that refuses a word (R85 case 5) -/

theorem step_of_notATransaction {s : State} {w v : TxnWord} {es : List Event} (he : s.events = .txn w :: es)
    (hd : decode w = .notATransaction v) : step s = .refused (.notATransaction v) := by
  simp [step, nextTurn, he, presentWord, hd]

/-- Settles O6: a presented word that the decoder refuses ends the step. -/
theorem stepRefusesReadWithData : Obligations.StepRefusesReadWithData := by
  unfold Obligations.StepRefusesReadWithData
  intro s off v es hv he
  exact step_of_notATransaction he (decode_readWithData off v hv)

/-! ### The steps that run no transaction (R132, R276, R280) -/

theorem step_of_idle {s : State} (he : s.events = []) (hb : s.busy = false) : step s = .next s := by
  simp [step, nextTurn, he, hb]

theorem step_of_dueCompletion {s : State} (he : s.events = []) (hb : s.busy = true) : step s = complete s := by
  simp [step, nextTurn, he, hb]

theorem step_of_droppedCompletion {s : State} {es : List Event} (he : s.events = .completion :: es)
    (hb : s.busy = false) : step s = .next (s.withEvents es) := by
  simp [step, nextTurn, he, hb]

theorem step_of_reset {s : State} {es : List Event} (he : s.events = .rst :: es) :
    step s = .next (s.withEvents es).resetCore := by
  simp [step, nextTurn, he]

/-! ### No fault from a consistent state (R132, R140, R250) -/

theorem transition_answers {s : State} (hterm : s.phase.isTerminal = false)
    (htrans : s.phase ≠ .lineDecoding ∧ s.phase ≠ .validating) : ∃ t, transition s = .next t := by
  unfold transition
  cases hp : s.phase with
  | idle | realigned | unpacked | dewhitened => exact ⟨_, rfl⟩
  | violation | parityFailure | extracted => simp [hp, Phase.isTerminal] at hterm
  | lineDecoding | validating => simp [hp] at htrans

/-- A call ends at a violation, at a mismatch, or with its Reading (R135, R145). -/
theorem complete_decode_answers {s : State} (hp : s.pending = some .decode) : ∃ t, complete s = .next t := by
  cases hv : firstViolation s.cap with
  | some k => exact ⟨_, complete_decode_of_violation hp hv⟩
  | none =>
    cases hm : validate s.unpackedCall.pkt s.unpackedCall.par with
    | some i => exact ⟨_, complete_decode_of_mismatch hp hv hm⟩
    | none => exact ⟨_, complete_decode_of_pass hp hv hm⟩

theorem complete_of_commandEffect {s u : State} {c : Command} (hp : s.pending = some c)
    (h : commandEffect c s = .next u) : complete s = .next u.finish := by
  simp [complete, hp, h]

theorem State.Consistent.complete_answers {s : State} (hs : s.Consistent) (hb : s.busy = true) :
    ∃ t, complete s = .next t := by
  obtain ⟨c, hp⟩ : ∃ c, s.pending = some c := Option.isSome_iff_exists.mp (hs.inFlight ▸ hb)
  cases c with
  | decode => exact complete_decode_answers hp
  | step =>
    obtain ⟨t, ht⟩ := transition_answers (hs.stepAccepted hp) hs.not_transient
    exact ⟨_, complete_of_commandEffect hp ht⟩
  | clear => exact ⟨_, complete_of_commandEffect hp rfl⟩

/-- From a consistent state a step answers, unless the word presented spells no transaction. -/
theorem State.Consistent.step_answers_or_refuses {s : State} (hs : s.Consistent) :
    (∃ t, step s = .next t) ∨
    ∃ w, .txn w ∈ s.events ∧ decode w = .notATransaction w ∧ step s = .refused (.notATransaction w) := by
  match he : s.events, hb : s.busy with
  | [], false => exact .inl ⟨s, step_of_idle he hb⟩
  | [], true =>
    obtain ⟨t, ht⟩ := hs.complete_answers hb
    exact .inl ⟨t, (step_of_dueCompletion he hb).trans ht⟩
  | .completion :: es, false => exact .inl ⟨_, step_of_droppedCompletion he hb⟩
  | .completion :: es, true =>
    obtain ⟨t, ht⟩ := (hs.withEvents es).complete_answers hb
    exact .inl ⟨t, (step_of_completion he hb).trans ht⟩
  | .rst :: es, _ => exact .inl ⟨_, step_of_reset he⟩
  | .txn w :: es, _ =>
    cases hd : decode w with
    | instr i =>
      obtain ⟨t, ht⟩ := exec_answers i (s.withEvents es).countTxn
      exact .inl ⟨t, (step_of_transaction he hd).trans ht⟩
    | notATransaction v =>
      obtain ⟨rfl, -⟩ := refused_of_decode hd
      exact .inr ⟨v, List.mem_cons_self, hd, step_of_notATransaction he hd⟩

/-- Settles O55: the one step without an answer refuses a word, and no such word is to come where all words decode. -/
theorem consistentStateNeverFaults : Obligations.ConsistentStateNeverFaults := by
  unfold Obligations.ConsistentStateNeverFaults
  intro s hs
  obtain ⟨t, ht⟩ | ⟨w, hw, hd, hstep⟩ := hs.step_answers_or_refuses
  · rw [ht]
    exact ⟨trivial, fun _ => ⟨t, rfl⟩⟩
  · rw [hstep]
    refine ⟨⟨w, rfl⟩, fun hdecode => ?_⟩
    obtain ⟨i, hi⟩ := hdecode w hw
    cases hd.symm.trans hi

end Sys2Proof.Machine

/-! # Proofs: the host's reads and writes, at rest and while busy (R110 to R113) -/

namespace Sys2Proof.Machine

/-! ### A read (R110, R112) -/

/-- Settles O11: at rest no read is a draw. -/
theorem readAtRest : Obligations.ReadAtRest := by
  unfold Obligations.ReadAtRest
  intro s off hb
  rw [exec_rd, hostRead_of_noDraw (.inl hb)]

theorem inDrawSet_iff (off : Offset) :
    inDrawSet off = true ↔ (0x17 ≤ off.toNat ∧ off.toNat ≤ 0x20) ∨ (0x30 ≤ off.toNat ∧ off.toNat ≤ 0x3A) ∨
      (0x40 ≤ off.toNat ∧ off.toNat ≤ 0x4A) ∨ (0x50 ≤ off.toNat ∧ off.toNat ≤ 0x58) := by
  simp [inDrawSet, or_assoc]

theorem readsAsDraw_eq_false_iff (off : Offset) :
    readsAsDraw off = false ↔ ¬ inDrawSet off = true ∧ off.toNat ≠ 0x16 := by
  simp [readsAsDraw, statusOffset, ← BitVec.toNat_inj]

theorem hostRead_of_draw {s : State} {off : Offset} (hb : s.busy = true) (hd : readsAsDraw off = true) :
    s.hostRead off = { s with reads := s.readByte off :: s.reads, draws := s.draws + 1 } := by
  simp [State.hostRead, hb, hd]

/-- Settles O14: STATUS and DRAW_SET are the offsets that draw, and the rest of the window reads as at rest. -/
theorem readWhileBusyIsDraw : Obligations.ReadWhileBusyIsDraw := by
  unfold Obligations.ReadWhileBusyIsDraw
  intro s hb
  refine ⟨?_, fun off hoff => ?_, fun off hoff => ?_⟩
  · have hdraw : readsAsDraw statusOffset = true := by decide
    rw [← readByte_of_status hb, ← hostRead_of_draw hb hdraw]
    rfl
  · have hset : inDrawSet off = true := (inDrawSet_iff off).mpr hoff
    have hdraw : readsAsDraw off = true := by simp [readsAsDraw, hset]
    rw [exec_rd, hostRead_of_draw hb hdraw, readByte_of_drawSet hb hset]
  · have hnoDraw : readsAsDraw off = false := by
      rw [readsAsDraw_eq_false_iff, inDrawSet_iff]
      omega
    rw [exec_rd, hostRead_of_noDraw (.inr hnoDraw)]

/-! ### A write (R111, R113) -/

/-- Every write, whatever its offset and data, goes through the write gate. -/
theorem exec_of_isWrite {i : Instr} (h : i.isWrite = true) :
    ∃ effect : State → State, ∀ s, exec i s = .next (s.writeUnlessBusy effect) := by
  cases i with
  | rd off => cases h
  | wr off v => exact ⟨_, exec_wr off v⟩
  | nop => exact ⟨_, exec_nop⟩
  | decode => exact ⟨_, exec_decode⟩
  | step => exact ⟨_, exec_step⟩
  | clear => exact ⟨_, exec_clear⟩
  | reservedCmd v => exact ⟨_, exec_reservedCmd v⟩

/-- Settles O20: a busy core's write gate raises the command error in place of the write's effect. -/
theorem writeWhileBusyDropped : Obligations.WriteWhileBusyDropped := by
  unfold Obligations.WriteWhileBusyDropped
  intro i s hi hb
  obtain ⟨effect, hexec⟩ := exec_of_isWrite hi
  rw [hexec, writeUnlessBusy_of_busy effect hb]
  rfl

/-- The transaction that a command byte names does Command of that byte (R84, R130). -/
theorem exec_decodeCommand (v : Byte) (s : State) :
    exec (decodeCommand v) s = .next (s.writeUnlessBusy (command v)) := by
  unfold decodeCommand
  split_ifs with h0 h1 h2 h3
  · subst h0; exact exec_nop s
  · subst h1; exact exec_decode s
  · subst h2; exact exec_step s
  · subst h3; exact exec_clear s
  · exact exec_reservedCmd v s

/-- Settles O19: CMD stands at 0x15, and both transactions do Command of the byte through the write gate. -/
theorem writesToCmdAreCommands : Obligations.WritesToCmdAreCommands := by
  unfold Obligations.WritesToCmdAreCommands
  intro v s
  have hcmd : regAt 0x15#7 = .cmd := regAt_offset .cmd
  rw [exec_wr, hcmd, exec_decodeCommand]
  rfl

end Sys2Proof.Machine

/-! # Proofs: the commands, from acceptance to completion (R130 to R146, R251, R252, R254) -/

namespace Sys2Proof.Machine

/-! ### The commands with BUSY = 0 (R130, R133 to R137) -/

/-- Settles O21: at rest the write gate lets NOP through, and it has no effect. -/
theorem nopDoesNothing : Obligations.NopDoesNothing := by
  unfold Obligations.NopDoesNothing
  intro s hb
  rw [exec_nop, writeUnlessBusy_of_rest _ hb, commandNop]

/-- Settles O22: at rest both go through the write gate, and neither looks at PHASE. -/
theorem decodeAndClearAccepted : Obligations.DecodeAndClearAccepted := by
  unfold Obligations.DecodeAndClearAccepted
  intro s hb
  rw [exec_decode, exec_clear, writeUnlessBusy_of_rest _ hb, writeUnlessBusy_of_rest _ hb]
  exact ⟨rfl, rfl⟩

theorem isTerminal_iff (p : Phase) : p.isTerminal = true ↔ p = .violation ∨ p = .parityFailure ∨ p = .extracted := by
  cases p <;> decide

theorem commandStep_of_terminal {s : State} (h : s.phase.isTerminal = true) :
    commandStep s = s.raiseCommandError .stepInTerminal := by
  simp [commandStep, h]

theorem commandStep_of_not_terminal {s : State} (h : s.phase.isTerminal = false) : commandStep s = s.accept .step := by
  simp [commandStep, h]

/-- Settles O23: the three excluded phases are the terminal ones. -/
theorem stepAccepted : Obligations.StepAccepted := by
  unfold Obligations.StepAccepted
  intro s hb hviolation hparity hextracted
  have hterm : s.phase.isTerminal = false := by
    rw [← Bool.not_eq_true, isTerminal_iff]
    simp [hviolation, hparity, hextracted]
  rw [exec_step, writeUnlessBusy_of_rest _ hb, commandStep_of_not_terminal hterm]
  rfl

/-- Settles O24: in a terminal phase the command is the command error alone. -/
theorem stepInTerminalRaisesCommandError : Obligations.StepInTerminalRaisesCommandError := by
  unfold Obligations.StepInTerminalRaisesCommandError
  intro s hb hphase
  rw [exec_step, writeUnlessBusy_of_rest _ hb, commandStep_of_terminal ((isTerminal_iff _).mpr hphase)]
  rfl

/-- Settles O25: a byte of 4 or more is none of the four commands. -/
theorem reservedCommandRaisesCommandError : Obligations.ReservedCommandRaisesCommandError := by
  unfold Obligations.ReservedCommandRaisesCommandError
  intro s v hb hv
  rw [exec_reservedCmd, writeUnlessBusy_of_rest _ hb, command_reserved hv]
  rfl

/-! ### What a command leaves alone, in every state (R131, R255) -/

/-- Every command is Command of some byte, behind the write gate. -/
theorem exec_of_isCommand {i : Instr} (h : i.isCommand = true) :
    ∃ v : Byte, ∀ s, exec i s = .next (s.writeUnlessBusy (command v)) := by
  cases i with
  | rd off => cases h
  | wr off v =>
    obtain rfl : off = cmdOffset := by simpa [Instr.isCommand] using h
    exact ⟨v, fun s => (writesToCmdAreCommands v s).trans (exec_decodeCommand v s)⟩
  | nop => exact ⟨0x00#8, exec_decodeCommand 0x00#8⟩
  | decode => exact ⟨0x01#8, exec_decodeCommand 0x01#8⟩
  | step => exact ⟨0x02#8, exec_decodeCommand 0x02#8⟩
  | clear => exact ⟨0x03#8, exec_decodeCommand 0x03#8⟩
  | reservedCmd v => exact ⟨v, exec_reservedCmd v⟩

/-- `t` is `s` but for BUSY, PENDING, CMDERR, CMDCAUSE and the model's counter. -/
def SameOutsideCommand (s t : State) : Prop :=
  t = { s with busy := t.busy, pending := t.pending, cmderr := t.cmderr, cmdcause := t.cmdcause, busyTxns := t.busyTxns }

theorem sameOutsideCommand_command (v : Byte) (s : State) : SameOutsideCommand s (command v s) := by
  obtain e | e | ⟨-, e⟩ | ⟨-, e⟩ | e | e := command_cases v s <;> rw [e] <;> rfl

theorem sameOutsideCommand_writeUnlessBusy (v : Byte) (s : State) :
    SameOutsideCommand s (s.writeUnlessBusy (command v)) := by
  cases hb : s.busy
  · rw [writeUnlessBusy_of_rest _ hb]; exact sameOutsideCommand_command v s
  · rw [writeUnlessBusy_of_busy _ hb]; rfl

/-- The elements a command writes are read at STATUS and ERRINFO alone. -/
theorem SameOutsideCommand.readReg_eq {s t : State} (h : SameOutsideCommand s t) {r : Reg} (hstatus : r ≠ .status)
    (herrinfo : r ≠ .errinfo) : t.readReg r = s.readReg r := by
  unfold SameOutsideCommand at h
  rw [h]
  cases r with
  | status => exact absurd rfl hstatus
  | errinfo => exact absurd rfl herrinfo
  | _ => rfl

theorem regAt_ne_status_and_errinfo {a : Offset} (hstatus : a ≠ 0x16#7) (herrinfo : a ≠ 0x17#7) :
    regAt a ≠ .status ∧ regAt a ≠ .errinfo := by
  revert a
  decide

/-- Settles O18: a command is dropped or is Command of its byte, and neither writes any other element. -/
theorem commandFrame : Obligations.CommandFrame := by
  unfold Obligations.CommandFrame
  intro i s hi
  obtain ⟨v, hexec⟩ := exec_of_isCommand hi
  have hframe := sameOutsideCommand_writeUnlessBusy v s
  refine ⟨_, hexec s, hframe, fun a hstatus herrinfo => ?_⟩
  obtain ⟨hs, he⟩ := regAt_ne_status_and_errinfo hstatus herrinfo
  exact hframe.readReg_eq hs he

/-! ### When a completion fires (R132) -/

/-- Settles O7: the steps that complete, the one that drops its event, and a completion by its command's effect. -/
theorem completionFiresWhileBusy : Obligations.CompletionFiresWhileBusy := by
  unfold Obligations.CompletionFiresWhileBusy
  exact ⟨fun _ _ => step_of_completion, fun _ _ => step_of_droppedCompletion, fun _ => step_of_dueCompletion,
    fun _ _ _ => complete_of_commandEffect⟩

/-! ### The completion of a CLEAR or a STEP (R134, R136, R138, R141 to R144) -/

/-- Settles O47: the effect of CLEAR is ClearCall. -/
theorem clearCompletes : Obligations.ClearCompletes := by
  unfold Obligations.ClearCompletes
  intro s hp
  exact complete_of_commandEffect hp rfl

/-- A STEP completes with one transition. -/
theorem complete_step {s t : State} (hp : s.pending = some .step) (h : transition s = .next t) :
    complete s = .next t.finish :=
  complete_of_commandEffect hp h

theorem transition_of_idle {s : State} (h : s.phase = .idle) : transition s = .next (transitionIdle s) := by
  simp [transition, h]

theorem transition_of_realigned {s : State} (h : s.phase = .realigned) :
    transition s = .next (transitionRealigned s) := by
  simp [transition, h]

theorem transition_of_unpacked {s : State} (h : s.phase = .unpacked) : transition s = .next (transitionUnpacked s) := by
  simp [transition, h]

theorem transition_of_dewhitened {s : State} (h : s.phase = .dewhitened) :
    transition s = .next (transitionDewhitened s) := by
  simp [transition, h]

theorem firstViolationFrom_eq_findIdx? (k : Nat) (bs : List Byte) :
    firstViolationFrom k bs = (bs.findIdx? byteViolates).map (k + ·) := by
  induction bs generalizing k with
  | nil => rfl
  | cons b bs ih =>
    rw [firstViolationFrom, List.findIdx?_cons, ih]
    split
    · rfl
    · simp [Function.comp_def, Nat.add_assoc, Nat.add_comm 1]

theorem firstViolation_eq_some_of_first {cap : Vector Byte 20} (k : Fin 20) (hk : byteViolates cap[k] = true)
    (hbelow : ∀ j : Fin 20, j < k → byteViolates cap[j] = false) : firstViolation cap = some k.val := by
  have hfind : cap.toList.findIdx? byteViolates = some k.val := by
    refine List.findIdx?_eq_some_iff_getElem.mpr ⟨by simp, by simpa using hk, fun j hj => ?_⟩
    simpa using hbelow ⟨j, by omega⟩ hj
  simp [firstViolation, firstViolationFrom_eq_findIdx?, hfind]

/-- Settles O45: the transition from IDLE, for the two answers of the line decoder. -/
theorem stepFromIdleCompletes : Obligations.StepFromIdleCompletes := by
  unfold Obligations.StepFromIdleCompletes
  intro s hp hphase
  have hcomplete := complete_step hp (transition_of_idle hphase)
  refine ⟨fun hclean => ?_, fun k hk hbelow => ?_⟩
  · rw [hcomplete, transitionIdle_of_clean (firstViolation_of_clean hclean)]
    rfl
  · rw [hcomplete, transitionIdle_of_violation (firstViolation_eq_some_of_first k hk hbelow)]
    rfl

/-- Settles O46: the transition of each phase, and from UNPACKED the two answers of the validator. -/
theorem stepFromLaterPhasesCompletes : Obligations.StepFromLaterPhasesCompletes := by
  unfold Obligations.StepFromLaterPhasesCompletes
  intro s hp
  refine ⟨fun hphase => ?_, fun hphase hpass => ?_, fun hphase i hi hbelow => ?_, fun hphase => ?_⟩
  · exact complete_step hp (transition_of_realigned hphase)
  · rw [complete_step hp (transition_of_unpacked hphase), transitionUnpacked_of_pass (validate_eq_none hpass)]
    rfl
  · rw [complete_step hp (transition_of_unpacked hphase),
      transitionUnpacked_of_mismatch (validate_eq_some_of_first i hi hbelow)]
    rfl
  · exact complete_step hp (transition_of_dewhitened hphase)

/-! ### The completion of a DECODE (R135, R145, R251) -/

/-- Settles O50: the call ends at the violation, before any stage after the line decoder. -/
theorem decodeOfViolatingCapture : Obligations.DecodeOfViolatingCapture := by
  unfold Obligations.DecodeOfViolatingCapture
  intro s k hp hk hbelow
  exact complete_decode_of_violation hp (firstViolation_eq_some_of_first k hk hbelow)

theorem transitions_succ {n : Nat} {s t : State} (h : transition s = .next t) :
    transitions (n + 1) s = transitions n t := by
  simp [transitions, h]

/-- A clean capture is unpacked after two transitions from the cleared call. -/
theorem transitions_clearCall_of_clean {s : State} (n : Nat) (hv : firstViolation s.cap = none) :
    transitions (n + 2) s.clearCall = transitions n s.unpackedCall := by
  rw [transitions_succ (transition_of_idle rfl), transitionIdle_of_clean (s := s.clearCall) hv,
    transitions_succ (transition_of_realigned rfl)]
  rfl

/-- Settles O48: one transition to a violation, or two to the packet and one more to a mismatch, two to the Reading. -/
theorem decodeRunsTransitionsToTerminal : Obligations.DecodeRunsTransitionsToTerminal := by
  unfold Obligations.DecodeRunsTransitionsToTerminal
  intro s hp
  cases hv : firstViolation s.cap with
  | some k =>
    refine ⟨1, _, ?_, complete_decode_of_violation hp hv, .inl ⟨rfl, rfl⟩⟩
    rw [transitions_succ (transition_of_idle rfl), transitionIdle_of_violation (s := s.clearCall) hv, transitions]
  | none =>
    cases hm : validate s.unpackedCall.pkt s.unpackedCall.par with
    | some i =>
      refine ⟨3, _, ?_, complete_decode_of_mismatch hp hv hm, .inr (.inl ⟨rfl, rfl⟩)⟩
      rw [transitions_clearCall_of_clean 1 hv, transitions_succ (transition_of_unpacked rfl),
        transitionUnpacked_of_mismatch hm, transitions]
    | none =>
      refine ⟨4, _, ?_, complete_decode_of_pass hp hv hm, .inr (.inr ⟨rfl, rfl⟩)⟩
      rw [transitions_clearCall_of_clean 2 hv, transitions_succ (transition_of_unpacked rfl),
        transitionUnpacked_of_pass hm, transitions_succ (transition_of_dewhitened rfl), transitions]
      rfl

/-! ### Leaving a terminal phase (R146, R254) -/

theorem not_terminal_of_transition {s t : State} (h : transition s = .next t) : s.phase.isTerminal = false := by
  obtain ⟨hp, -⟩ | ⟨hp, -⟩ | ⟨hp, -⟩ | ⟨hp, -⟩ := transition_cases h <;> rw [hp] <;> rfl

/-- In a terminal phase a STEP in flight has no transition to make, so what completes is another command. -/
theorem pending_of_complete_terminal {s t : State} (h : complete s = .next t) (hterm : s.phase.isTerminal = true) :
    s.pending = some .decode ∨ s.pending = some .clear := by
  obtain ⟨c, u, hp, hu, -⟩ := complete_cases h
  cases c with
  | decode => exact .inl hp
  | step => cases hterm.symm.trans (not_terminal_of_transition hu)
  | clear => exact .inr hp

/-- A transaction leaves PHASE as it is. -/
theorem phase_of_exec {i : Instr} {s t : State} (h : exec i s = .next t) : t.phase = s.phase := by
  rw [transactionsMoveNoCall i s t h]

/-- Settles O32: of the steps only a reset and a completion move PHASE, and a STEP does not complete there. -/
theorem terminalPhaseLeftOnlyBy : Obligations.TerminalPhaseLeftOnlyBy := by
  unfold Obligations.TerminalPhaseLeftOnlyBy
  intro s t h hterm hleft
  obtain ⟨-, -, rfl⟩ | ⟨he, hb, hc⟩ | ⟨es, he, hb, hc⟩ | ⟨es, -, -, rfl⟩ | ⟨es, he, -⟩ | ⟨es, w, i, -, -, hx⟩ :=
    step_cases h
  · exact absurd rfl hleft
  · exact .inr ⟨hb, .inl he, pending_of_complete_terminal hc hterm⟩
  · exact .inr ⟨hb, .inr ⟨es, he⟩, pending_of_complete_terminal (s := s.withEvents es) hc hterm⟩
  · exact absurd rfl hleft
  · exact .inl ⟨es, he⟩
  · exact absurd (phase_of_exec hx) hleft

/-! ### A command in flight comes to its end (R132, R280, R291) -/

/-- `s` with the elements of `t` that transactions may change while a command is in flight. -/
def State.withPortOf (s t : State) : State :=
  { s with
    cmderr := t.cmderr, cmdcause := t.cmdcause, events := t.events, reads := t.reads, draws := t.draws,
    busyTxns := t.busyTxns }

/-- BUSY falls within one step more than there are events; unless a reset is to come, by the completion of PENDING from
`s` itself, but for what transactions in between have changed. -/
def State.ComesToRest (s : State) : Prop :=
  ∃ (n : Nat) (t : State), n ≤ s.events.length + 1 ∧ Sys2Proof.core.run n s = .next t ∧ t.busy = false ∧
    (Event.rst ∉ s.events → complete (s.withPortOf t) = .next t)

theorem run_succ {n : Nat} {s t : State} (h : step s = .next t) :
    Sys2Proof.core.run (n + 1) s = Sys2Proof.core.run n t := by
  have hcore : Sys2Proof.core.step s = .next t := h
  simp only [Host.Core.run, hcore]

theorem run_one {s t : State} (h : step s = .next t) : Sys2Proof.core.run 1 s = .next t := run_succ h

/-- A completion changes none of the elements that transactions may change. -/
theorem withPortOf_of_complete {s t : State} {es : List Event} (h : complete (s.withEvents es) = .next t) :
    s.withPortOf t = s.withEvents es := by
  obtain ⟨⟨-, -, herr, hcause, hevents, hreads, hdraws, hcount⟩, -⟩ := complete_frame h
  simp [State.withPortOf, herr, hcause, hevents, hreads, hdraws, hcount, State.withEvents]

theorem comesToRest_of_complete {s : State} {es : List Event} (hs : s.Consistent) (hb : s.busy = true)
    (hstep : step s = complete (s.withEvents es)) : s.ComesToRest := by
  obtain ⟨t, ht⟩ := (hs.withEvents es).complete_answers hb
  obtain ⟨-, hrest, -⟩ := complete_frame ht
  exact ⟨1, t, by omega, run_one (hstep.trans ht), hrest, fun _ => by rw [withPortOf_of_complete ht, ht]⟩

theorem comesToRest_of_reset {s : State} {es : List Event} (he : s.events = .rst :: es) : s.ComesToRest :=
  ⟨1, _, by omega, run_one (step_of_reset he), rfl, fun hno => absurd (he ▸ List.mem_cons_self) hno⟩

/-- A presented transaction leaves the command in flight, and nothing of what it changes outlasts `withPortOf`. -/
theorem exec_presented_of_busy {s u : State} {es : List Event} {i : Instr} (hb : s.busy = true)
    (hx : exec i (s.withEvents es).countTxn = .next u) :
    u.events = es ∧ u.busy = true ∧ ∀ t, u.withPortOf t = s.withPortOf t := by
  rw [exec_frame_of_busy (s := (s.withEvents es).countTxn) hb hx]
  exact ⟨rfl, hb, fun _ => rfl⟩

/-- A transaction that runs while a command is in flight puts its completion off by one step. -/
theorem comesToRest_of_transaction {s u : State} {w : TxnWord} {es : List Event} {i : Instr} (hb : s.busy = true)
    (he : s.events = .txn w :: es) (hd : decode w = .instr i) (hx : exec i (s.withEvents es).countTxn = .next u)
    (hu : u.ComesToRest) : s.ComesToRest := by
  obtain ⟨n, t, hn, hrun, hrest, heffect⟩ := hu
  obtain ⟨rfl, -, hport⟩ := exec_presented_of_busy hb hx
  refine ⟨n + 1, t, by rw [he, List.length_cons]; omega,
    (run_succ ((step_of_transaction he hd).trans hx)).trans hrun, hrest, fun hno => ?_⟩
  rw [← hport]
  exact heffect fun hmem => hno (he ▸ List.mem_cons_of_mem _ hmem)

/-- By induction on the events to come: each but a transaction ends the command at once. -/
theorem State.Consistent.comesToRest {s : State} (hs : s.Consistent) (hb : s.busy = true) (hw : s.wordsDecode) :
    s.ComesToRest := by
  induction hes : s.events generalizing s with
  | nil => exact comesToRest_of_complete (es := s.events) hs hb (step_of_dueCompletion hes hb)
  | cons e es ih =>
    cases e with
    | completion => exact comesToRest_of_complete hs hb (step_of_completion hes hb)
    | rst => exact comesToRest_of_reset hes
    | txn w =>
      obtain ⟨i, hd⟩ := hw w (by rw [hes]; exact List.mem_cons_self)
      obtain ⟨u, hx⟩ := exec_answers i (s.withEvents es).countTxn
      obtain ⟨hevents, hbusy, -⟩ := exec_presented_of_busy hb hx
      have hwords : u.wordsDecode := fun v hv => hw v (hes ▸ List.mem_cons_of_mem _ (hevents ▸ hv))
      have hconsistent := (exec_effect hx).consistent (hs.withEvents es).countTxn
      exact comesToRest_of_transaction hb hes hd hx (ih hconsistent hbusy hwords hevents)

/-- Settles O59: one run serves both clauses. -/
theorem commandEventuallyCompletes : Obligations.CommandEventuallyCompletes := by
  unfold Obligations.CommandEventuallyCompletes
  intro s hs hb hw
  obtain ⟨n, t, hn, hrun, hrest, heffect⟩ := hs.comesToRest hb hw
  exact ⟨⟨n, t, hn, hrun, hrest⟩, fun hno => ⟨n, t, hn, hrun, hrest, heffect hno⟩⟩

end Sys2Proof.Machine

/-! # Proofs: the line decoder's violations (R161, R162) -/

namespace Sys2Proof.Machine

/-- A group violates exactly if its two bits agree. -/
theorem groupViolates_eq_beq : ∀ g : BitVec 2, groupViolates g = (g.getLsbD 1 == g.getLsbD 0) := by decide

/-- Group j of a capture byte is clean exactly if the byte's bits 2j + 1 and 2j differ. -/
theorem groupViolates_symbolGroup_eq_false (b : Byte) (j : Nat) :
    groupViolates (symbolGroup b j) = false ↔ b.getLsbD (2 * j + 1) ≠ b.getLsbD (2 * j) := by
  simp [groupViolates_eq_beq, symbolGroup]

theorem byteViolates_eq_false_iff (b : Byte) :
    byteViolates b = false ↔ ∀ j : Fin 4, groupViolates (symbolGroup b j.val) = false := by
  simp [byteViolates, Fin.forall_fin_succ, and_assoc]

/-- Settles O33: both halves say that a violating group is a pair of equal bits. -/
theorem violationIsEqualPair : Obligations.ViolationIsEqualPair := by
  unfold Obligations.ViolationIsEqualPair
  refine ⟨fun g => by simp [groupViolates], fun b => ?_⟩
  simp only [byteViolates_eq_false_iff, groupViolates_symbolGroup_eq_false]

theorem lineDecode_of_violation {s : State} {k : Nat} (h : firstViolation s.cap = some k) :
    lineDecode s = (some (BitVec.ofNat 8 k), { s with consumed := BitVec.ofNat 8 k }) := by
  simp [lineDecode, h]

/-- Settles O34: the search for a violation answers k, whatever the bytes after k hold. -/
theorem lineDecodeStopsAtFirstViolation : Obligations.LineDecodeStopsAtFirstViolation := by
  unfold Obligations.LineDecodeStopsAtFirstViolation
  intro s k hk hbelow
  exact lineDecode_of_violation (firstViolation_eq_some_of_first k hk hbelow)

end Sys2Proof.Machine

/-! # Proofs: the realigner's closed form (R181) -/

namespace Sys2Proof.Machine

/-- R180's shift and R181's concatenation are one byte. -/
theorem shiftIn_eq_append (top : Bit) (b : Byte) : shiftIn top b = top ++ b.extractLsb' 1 7 := by
  refine BitVec.eq_of_getLsbD_eq fun j hj => ?_
  rw [BitVec.getLsbD_append]
  by_cases h : j < 7
  · simp [shiftIn, h]
  · obtain rfl : j = 7 := by omega
    simp [shiftIn]

/-- Settles O37: each byte of the realigned buffer is a shift of its own byte, which is the concatenation of R181. -/
theorem realignClosedForm : Obligations.RealignClosedForm := by
  unfold Obligations.RealignClosedForm
  refine fun s => ⟨realigned s.pol s.dbuf, rfl, ?_, fun i => ?_⟩
  · rw [getElem_realigned_zero, shiftIn_eq_append]
  · rw [getElem_realigned_succ, shiftIn_eq_append, bitAt]

end Sys2Proof.Machine

/-! # Proofs: the unpacker's windows, its parity taps and its unused bits (R191, R192, R193) -/

namespace Sys2Proof.Machine

/-- R191's window: its low i bits are the top bits of the second byte, the others the low bits of the first. -/
theorem getLsbD_window (a b : Byte) {i k : Nat} (hi : i ≤ 8) (hk : k < 8) :
    ((a <<< i) ||| (b >>> (8 - i))).getLsbD k = if k < i then b.getLsbD (8 - i + k) else a.getLsbD (k - i) := by
  rw [BitVec.getLsbD_or, BitVec.getLsbD_shiftLeft, BitVec.getLsbD_ushiftRight]
  split
  case isTrue h => simp [h]
  case isFalse h =>
    rw [BitVec.getLsbD_of_ge b _ (by omega)]
    simp [hk, h]

theorem packetByte_of_window (r : Vector Byte 11) {i : Fin 9} (hi : 1 ≤ i.val) (hi' : i.val ≤ 7) :
    packetByte r i = (r[i.val] <<< i.val) ||| (r[i.val + 1] >>> (8 - i.val)) := by
  rw [packetByte, if_neg (by omega), if_neg (by omega)]

theorem parityBit_geometric_of_lt (r : Vector Byte 11) (i : Fin 8) :
    parityBit .geometric r i.castSucc = bitAt r[i.val + 1] (7 - i.val) := by
  rw [parityBit, if_neg (by simp; omega)]
  rfl

/-- Settles O38: the outer bytes and taps stand in the definitions, and between them each byte is a window. -/
theorem unpackWindows : Obligations.UnpackWindows := by
  unfold Obligations.UnpackWindows
  refine fun s => ⟨packetOf s.dbuf, parityBitsOf .geometric s.dbuf, rfl, ?_, ?_, fun i hi hi' k => ?_, fun i => ?_, ?_⟩
  · simp [packetOf, packetByte]
  · simp [packetOf, packetByte]
  · rw [packetOf, Fin.getElem_fin, Vector.getElem_ofFn, packetByte_of_window _ hi hi',
      getLsbD_window _ _ (by omega) k.isLt]
  · rw [parityBitsOf, Vector.getElem_ofFn]
    exact parityBit_geometric_of_lt s.dbuf i
  · simp [parityBitsOf, parityBit, bitAt]

/-- R[10][6:0] lies behind the 81 bits of the stream. -/
theorem streamBit_congr {r r' : Vector Byte 11} (hlow : ∀ i : Fin 10, r[i.val] = r'[i.val])
    (htop : r[10].getLsbD 7 = r'[10].getLsbD 7) : streamBit r = streamBit r' := by
  funext b
  by_cases hb : b.val < 80
  · rw [streamBit, streamBit, hlow ⟨b.val / 8, by omega⟩]
  · obtain rfl : b = 80 := by omega
    rw [streamBit_of_eq r (m := 10) (k := 0) rfl (by omega), streamBit_of_eq r' (m := 10) (k := 0) rfl (by omega),
      bitAt_eq_ofBool, bitAt_eq_ofBool, htop]

theorem packetByte_congr {r r' : Vector Byte 11} (h : streamBit r = streamBit r') : packetByte r = packetByte r' := by
  funext i
  exact byte_eq_of_bitAt fun k hk => by rw [bitAt_packetByte r i hk, bitAt_packetByte r' i hk, h]

theorem parityBit_congr {r r' : Vector Byte 11} (h : streamBit r = streamBit r') :
    parityBit .geometric r = parityBit .geometric r' := by
  funext i
  rw [parityBit_eq_streamBit, parityBit_eq_streamBit, h]

/-- Settles O40: the packet and its parity bits are bits of the stream, and the streams are equal. -/
theorem unusedBitsReachNothing : Obligations.UnusedBitsReachNothing := by
  unfold Obligations.UnusedBitsReachNothing
  intro r r' hlow htop
  have hstream := streamBit_congr hlow htop
  rw [packetOf, packetOf, parityBitsOf, parityBitsOf, packetByte_congr hstream, parityBit_congr hstream]
  exact ⟨rfl, rfl⟩

end Sys2Proof.Machine

/-! # Proofs: the validator (R210 to R213) -/

namespace Sys2Proof.Machine

/-! ### What Validate answers (R210, R211, R212) -/

theorem validate_eq_none_iff {pkt : Vector Byte 9} {par : Vector Bit 9} :
    validate pkt par = none ↔ ∀ i : Fin 8, parity8 pkt[i.val] = par[i.val] := by
  refine ⟨fun h i => ?_, validate_eq_none⟩
  have hmem : i.castSucc ∈ checkedBytes := by
    revert i
    decide
  simpa [parityMismatch] using List.find?_eq_none.mp h _ hmem

/-- The search stops at the first mismatch, so the bytes it passed over agree. -/
theorem first_of_validate_eq_some {pkt : Vector Byte 9} {par : Vector Bit 9} {i : Fin 9}
    (h : validate pkt par = some i) : parity8 pkt[i] ≠ par[i] ∧ ∀ j : Fin 9, j < i → parity8 pkt[j] = par[j] := by
  obtain ⟨hmismatch, k, hk, hi, hbelow⟩ := List.find?_eq_some_iff_getElem.mp h
  rw [checkedBytes_getElem] at hi
  subst hi
  refine ⟨by simpa [parityMismatch] using hmismatch, fun j hj => ?_⟩
  have hpass := hbelow j.val hj
  rw [checkedBytes_getElem] at hpass
  simpa [parityMismatch] using hpass

theorem validate_eq_some_iff {pkt : Vector Byte 9} {par : Vector Bit 9} {i : Fin 9} :
    validate pkt par = some i ↔
      i.val < 8 ∧ parity8 pkt[i] ≠ par[i] ∧ ∀ j : Fin 9, j < i → parity8 pkt[j] = par[j] := by
  constructor
  · intro h
    exact ⟨lt_of_validate h, first_of_validate_eq_some h⟩
  · rintro ⟨hlt, hi, hbelow⟩
    exact validate_eq_some_of_first ⟨i.val, hlt⟩ hi fun j hj => hbelow j.castSucc hj

/-- Settles O41: the two outcomes of the search over bytes 0 to 7. -/
theorem validateReportsLowestMismatch : Obligations.ValidateReportsLowestMismatch := by
  unfold Obligations.ValidateReportsLowestMismatch
  exact fun pkt par => ⟨fun i => validate_eq_some_iff, validate_eq_none_iff⟩

/-! ### Bit flips (R213) -/

theorem parity8_xor (a b : Byte) : parity8 (a ^^^ b) = parity8 a ^^^ parity8 b := by
  simp only [parity8, BitVec.extractLsb'_xor]
  ac_rfl

theorem parity8_flip (b : Byte) (j : Fin 8) : parity8 (b ^^^ (1#8 <<< j.val)) = parity8 b ^^^ 1#1 := by
  have hbit : parity8 (1#8 <<< j.val) = 1#1 := by
    revert j
    decide
  rw [parity8_xor, hbit]

theorem parity8_flip_ne (b : Byte) (j : Fin 8) : parity8 (b ^^^ (1#8 <<< j.val)) ≠ parity8 b := by
  have hne : ∀ p : Bit, p ^^^ 1#1 ≠ p := by decide
  rw [parity8_flip]
  exact hne _

theorem parity8_flip_flip (b : Byte) (j k : Fin 8) :
    parity8 (b ^^^ (1#8 <<< j.val) ^^^ (1#8 <<< k.val)) = parity8 b := by
  rw [parity8_flip, parity8_flip, BitVec.xor_assoc, BitVec.xor_self, BitVec.xor_zero]

section

variable {pkt : Vector Byte 9} {par : Vector Bit 9} (h : validate pkt par = none) (i : Fin 8) {b : Byte}
include h

/-- Every checked byte but the one that was replaced passes as before. -/
theorem parity8_set_of_ne {j : Fin 8} (hj : j ≠ i) : parity8 (pkt.set i.val b)[j.val] = par[j.val] := by
  rw [Vector.getElem_set_ne _ _ (by omega), validate_eq_none_iff.mp h j]

theorem validate_set_of_parity8_eq (hb : parity8 b = parity8 pkt[i.val]) : validate (pkt.set i.val b) par = none := by
  refine validate_eq_none fun j => ?_
  by_cases hj : j = i
  · rw [hj, Vector.getElem_set_self, hb, validate_eq_none_iff.mp h i]
  · exact parity8_set_of_ne h i hj

theorem validate_set_of_parity8_ne (hb : parity8 b ≠ parity8 pkt[i.val]) :
    validate (pkt.set i.val b) par = some ⟨i.val, by omega⟩ := by
  refine validate_eq_some_of_first i ?_ fun j hj => parity8_set_of_ne h i (Fin.ne_of_lt hj)
  rwa [Vector.getElem_set_self, ← validate_eq_none_iff.mp h i]

end

/-- Settles O42: one flip changes the parity of the byte, two flips leave it. -/
theorem singleFlipFailsDoubleFlipPasses : Obligations.SingleFlipFailsDoubleFlipPasses := by
  unfold Obligations.SingleFlipFailsDoubleFlipPasses
  exact fun pkt par i j k h =>
    ⟨validate_set_of_parity8_ne h i (parity8_flip_ne _ j),
      fun _ => validate_set_of_parity8_eq h i (parity8_flip_flip _ j k)⟩

end Sys2Proof.Machine

/-! # Proofs: the Dewhitener (46_dewhitener.md) -/

namespace Sys2Proof.Machine

/-! ### Dewhitened bytes and the packet they came from (R220, R222) -/

@[simp] theorem dewhitened_getElem_zero (pkt : Vector Byte 9) : (dewhitened pkt)[0] = pkt[0] ^^^ Config.whitenSeed := by
  simp [dewhitened, dewhitenedByte]

@[simp] theorem dewhitened_getElem_succ (pkt : Vector Byte 9) {i : Nat} (hi : i + 1 < 9) :
    (dewhitened pkt)[i + 1] = (pkt[i] + Config.whitenAdd) ^^^ pkt[i + 1] := by
  simp [dewhitened, dewhitenedByte]

theorem packet_getElem_zero (pkt : Vector Byte 9) : pkt[0] = (dewhitened pkt)[0] ^^^ Config.whitenSeed := by
  rw [dewhitened_getElem_zero, BitVec.xor_assoc, BitVec.xor_self, BitVec.xor_zero]

theorem packet_getElem_succ (pkt : Vector Byte 9) {i : Nat} (hi : i + 1 < 9) :
    pkt[i + 1] = (pkt[i] + Config.whitenAdd) ^^^ (dewhitened pkt)[i + 1] := by
  rw [dewhitened_getElem_succ, ← BitVec.xor_assoc, BitVec.xor_self, BitVec.zero_xor]

theorem whitenedByte_dewhitened (pkt : Vector Byte 9) (i : Nat) (hi : i < 9) :
    whitenedByte (dewhitened pkt) i hi = pkt[i] := by
  induction i with
  | zero => rw [whitenedByte, ← packet_getElem_zero]
  | succ i ih => rw [whitenedByte, ih, ← packet_getElem_succ]

theorem whitened_dewhitened (pkt : Vector Byte 9) : whitened (dewhitened pkt) = pkt := by
  ext i hi : 1
  rw [whitened, Vector.getElem_ofFn, whitenedByte_dewhitened]

/-- Settles O43: xor with the same byte twice cancels, and each whitened byte rests on the packet byte before it. -/
theorem rewhiteningRecoversPacket : Obligations.RewhiteningRecoversPacket := by
  unfold Obligations.RewhiteningRecoversPacket
  exact ⟨fun _ => rfl, fun pkt => ⟨packet_getElem_zero pkt, fun i => packet_getElem_succ pkt (Nat.succ_lt_succ i.isLt)⟩,
    whitened_dewhitened, dewhitened_whitened⟩

end Sys2Proof.Machine

/-! # Proofs: the FieldExtractor (47_field_extractor.md) -/

namespace Sys2Proof.Machine

/-! ### The temperature word (R232) -/

theorem toNat_temperatureOf (dew : Vector Byte 9) :
    (temperatureOf dew).toNat = 256 * (dew[5].toNat % 128) + dew[6].toNat := by
  have hmask : Config.tempHiMask.toNat = 2 ^ 7 - 1 := rfl
  rw [temperatureOf, BitVec.toNat_append, BitVec.toNat_and, hmask, Nat.and_two_pow_sub_one_eq_mod,
    ← Nat.shiftLeft_add_eq_or_of_lt (BitVec.isLt _), Nat.shiftLeft_eq, Nat.mul_comm]
  rfl

/-! ### The division by 10 of a signed value (R235) -/

theorem toInt_integerPart (v : Half) : (integerPart v).toInt = v.toInt.tdiv 10 := by
  have hlo : -2 ^ 15 ≤ v.toInt := BitVec.le_toInt v
  have hhi : v.toInt < 2 ^ 15 := BitVec.toInt_lt
  have hquot : (v.toInt.tdiv 10).natAbs = v.toInt.natAbs / 10 := Int.natAbs_tdiv _ _
  rw [integerPart, s16, Config.tempDivisor]
  exact BitVec.toInt_ofInt_eq_self (by decide) (by omega) (by omega)

theorem toInt_fractionDigit (v : Half) : (fractionDigit v).toInt = v.toInt.tmod 10 := by
  have hlo : -10 < v.toInt.tmod 10 := Int.lt_tmod_of_pos _ (by decide)
  have hhi : v.toInt.tmod 10 < 10 := Int.tmod_lt_of_pos _ (by decide)
  rw [fractionDigit, s16, Config.tempDivisor]
  exact BitVec.toInt_ofInt_eq_self (by decide) (by omega) (by omega)

/-- Settles O44: TEMP's sign bit is masked off, so its signed division by 10 is the one of its unsigned value; and for a
signed value neither part outgrows its register. -/
theorem extractedFields : Obligations.ExtractedFields := by
  unfold Obligations.ExtractedFields
  refine ⟨fun s => ?_, fun v => ⟨toInt_integerPart v, toInt_fractionDigit v, ?_⟩⟩
  · have hmsb : (temperatureOf s.dew).msb = false := msb_temperatureOf s.dew
    have hlt : (temperatureOf s.dew).toNat < 2 ^ 15 := BitVec.toNat_lt_of_msb_false hmsb
    have htint : (integerPart (temperatureOf s.dew)).toNat = (temperatureOf s.dew).toNat / 10 := toNat_integerPart hmsb
    exact ⟨extract s, rfl, rfl, rfl, rfl, toNat_temperatureOf s.dew, hmsb, htint, toNat_fractionDigit hmsb,
      by rw [extract_tint, htint]; omega⟩
  · rw [toInt_integerPart, toInt_fractionDigit, Int.mul_tdiv_add_tmod]

end Sys2Proof.Machine

/-! # Proofs: command errors, the idle core and reset (60_exceptions.md, 70_reset_and_hazards.md) -/

namespace Sys2Proof.Machine

/-- Settles O27: of the effects a transaction can have, an acceptance that writes CMDCAUSE leaves CMDERR = 0, and an error
raised while CMDERR = 1 keeps the cause. -/
theorem firstCauseKept : Obligations.FirstCauseKept := by
  unfold Obligations.FirstCauseKept
  intro i s t h hs ht
  cases exec_effect h with
  | accepted => cases ht
  | commandError c => rw [State.raiseCommandError_cmdcause, if_pos hs]
  | _ => rfl

/-- Settles O8: with no event the step is the idle turn, or a completion, which BUSY = 0 shuts out. -/
theorem idleCoreTakesNoStep : Obligations.IdleCoreTakesNoStep := by
  unfold Obligations.IdleCoreTakesNoStep
  exact fun _ => step_of_idle

theorem raiseCommandError_eq (s : State) (c : CmdCause) :
    s.raiseCommandError c = { s with cmdcause := if s.cmderr = false then c else s.cmdcause, cmderr := true } := by
  cases h : s.cmderr <;> simp [State.raiseCommandError, h]

/-- Settles O26: the entry writes the cause only over no error, and the acceptances of DECODE and CLEAR and the reset state
have neither flag nor cause. -/
theorem commandErrorEntryAndExit : Obligations.CommandErrorEntryAndExit := by
  unfold Obligations.CommandErrorEntryAndExit
  refine ⟨raiseCommandError_eq, fun s i hb hi => ?_, fun s => ⟨rfl, rfl⟩⟩
  obtain ⟨hdecode, hclear⟩ := decodeAndClearAccepted s hb
  obtain rfl | rfl := hi
  · exact ⟨_, hdecode, rfl, rfl⟩
  · exact ⟨_, hclear, rfl, rfl⟩

/-- Settles O9: the reset turn does not look at BUSY, and it keeps the port and the draw counter. -/
theorem resetEventResetsCore : Obligations.ResetEventResetsCore := by
  unfold Obligations.ResetEventResetsCore
  exact fun _ _ => step_of_reset

end Sys2Proof.Machine
